-- ==== Sys2Proof/Word.lean ====
section
/-! DEFINITION. The word types of the machine (00_scope.md R14): every register and every command word
is 32 bits, bit 0 the least significant. -/

namespace Sys2Proof

/-- A register value or a command word: 32 bits (R14). -/
abbrev Word := BitVec 32

/-- One byte of the little-endian byte view of a register (20_memory.md R64). -/
abbrev Byte := BitVec 8

/-- An 8-bit field of the reporting state (10_state.md R22, R30, R31). -/
abbrev Octet := BitVec 8

end Sys2Proof
end

