-- ==== Sys2Proof/Config.lean ====
section
/-! DEFINITION. What an implementation fixes (00_scope.md R5 to R12): the names of the target registers and the
configuration record, and the free values of the model. The configuration is plain data that the state holds
(log 1), so every statement about all states is a statement about all configurations. -/

namespace Sys2Proof

/-- The plain target registers (20_memory.md R69): a read returns the last value written. -/
inductive PlainReg where
  /-- `GCB_CLKCTL`, GCB index 0 (R42). -/
  | gcbClkctl
  /-- `GCB_IFMODE`, GCB index 2 (R44). -/
  | gcbIfmode
  /-- `CTB_TAPCFG`, CTB index 0 (R45). -/
  | ctbTapcfg
  /-- `CTB_TAPSET`, CTB index 1 (R46). -/
  | ctbTapset
  /-- `CTB_TAPPOS`, CTB index 2 (R47). -/
  | ctbTappos
  /-- `CTB_RVSCNTL`, CTB index 3 (R48). -/
  | ctbRvscntl
  /-- `CTB_ADJCTL`, CTB index 6 (R51). -/
  | ctbAdjctl
  /-- `CTB_WPUNLOCK`, CTB index 7, only written by TWS (R52). -/
  | ctbWpunlock
  /-- `CTB_MANCAL`, CTB index 9 (R54). -/
  | ctbMancal
  /-- `CTB_CALOFS`, CTB index 10 (R55). -/
  | ctbCalofs
  /-- `PLAT_CTRL`, reached through the handle `PLAT`, only written by TWS (R56). -/
  | platCtrl
  deriving DecidableEq, Repr

/-- The volatile target registers (20_memory.md R69): the controlled hardware determines what a read returns. -/
inductive VolatileReg where
  /-- `GCB_STATUS`, GCB index 1 (R43). -/
  | gcbStatus
  /-- `CTB_RVSREQ`, CTB index 4 (R49). -/
  | ctbRvsreq
  /-- `CTB_SMPCMP`, CTB index 5 (R50). -/
  | ctbSmpcmp
  /-- `CTB_CALCODE`, CTB index 8 (R53). -/
  | ctbCalcode
  deriving DecidableEq, Repr

/-- The fifteen target registers (10_state.md R41), each plain or volatile. -/
inductive Target where
  | plain (r : PlainReg)
  | volatile (r : VolatileReg)
  deriving DecidableEq, Repr

/-- The three blocks of target registers (20_memory.md R60). -/
inductive Block where
  | gcb
  | ctb
  | plat
  deriving DecidableEq, Repr

/-- The CalibrationTable (00_scope.md R8): two variants of 32 entries. That an entry is at most 31 is a check of
`Config.wf`. -/
structure CalibTable where
  variant0 : Vector Nat 32
  variant1 : Vector Nat 32
  deriving DecidableEq, Repr

/-- The configuration of one device instance (00_scope.md R5 to R12). It never changes (10_state.md R57 f). -/
structure Config where
  /-- `N`, the tap count (R5). -/
  n : Nat
  /-- `four_tap_hs400` (R6). -/
  fourTapHs400 : Bool
  /-- `hs400_disabled` (R6). -/
  hs400Disabled : Bool
  /-- `dtranend_alt_bit` (R6): shown in CFG, read by no other rule. -/
  dtranendAltBit : Bool
  /-- `manual_calib` (R6). -/
  manualCalib : Bool
  /-- `calib_offset` (R6). -/
  calibOffset : Nat
  /-- `calib_table`, absent or a table (R6, R8). -/
  calibTable : Option CalibTable
  /-- `port_variant` (R8). -/
  portVariant : Fin 2
  /-- `cap_busy_bit` (R7). -/
  capBusyBit : Bool
  /-- `cap_hs400_autocorr` (R7). -/
  capHs400Autocorr : Bool
  /-- `cap_hs400_data_tracking` (R7). -/
  capHs400DataTracking : Bool
  /-- `tuning_enabled` (R7). -/
  tuningEnabled : Bool
  /-- `P_HS400_4TAP_CHECK` (R12). -/
  hs400FourTapCheck : Bool
  /-- `POLL_LIMIT` (R9). -/
  pollLimit : Nat
  /-- `POLL_DELAY` (R9): no result depends on it (70_reset_and_hazards.md R255). -/
  pollDelay : Nat
  /-- `BASE_GCB` (R10). -/
  baseGcb : Nat
  /-- `BASE_CTB` (R10). -/
  baseCtb : Nat
  /-- `REG_SPACING` (R10). -/
  regSpacing : Nat
  /-- The handle `PLAT` (R10): a number that no operation reads (DESIGN CHOICE, log 16). -/
  platHandle : Nat
  /-- `REG_INDEX` (R10): the register indices that differ from the defaults. -/
  regIndex : List (Target × Nat)
  /-- `WP_UNLOCK_CODE` (R11). -/
  wpUnlockCode : Word
  /-- `TAPPOS_HS400` (R11). -/
  tapposHs400 : Word
  /-- `TAPPOS_DEFAULT` (R11). -/
  tapposDefault : Word
  /-- `PLAT_HS400_ON` (R11). -/
  platHs400On : Word
  /-- `PLAT_HS400_OFF` (R11). -/
  platHs400Off : Word
  deriving DecidableEq, Repr

/-- FREE VALUE (log 2; U3): what a plain target register holds after the power-on reset, which TWS does not
touch (10_state.md R58, 70_reset_and_hazards.md R241). It has no body, so no proof can know it. -/
opaque Config.targetAtReset : PlainReg → Word

/-- FREE VALUE (log 3; U2): what the controlled hardware shows on the read of a volatile register that is
number `k` (counted from 0) of all reads of it, where the state does not already hold the value to be shown
(20_memory.md R69). It has no body, so no law holds between two reads. -/
opaque Config.volatileRead : VolatileReg → Nat → Word

/-- The fixture calibration table `FIX` (95_test_vectors.md, conventions). -/
def CalibTable.fix : CalibTable where
  variant0 := #v[1, 2, 6, 6, 7, 8, 9, 10, 8, 9, 10, 11, 12, 13, 14, 15,
    16, 17, 18, 19, 20, 21, 22, 23, 24, 25, 26, 27, 28, 29, 30, 31]
  variant1 := #v[31, 30, 29, 28, 27, 26, 25, 24, 23, 22, 21, 20, 19, 18, 17, 16,
    15, 14, 13, 12, 11, 10, 9, 8, 7, 6, 5, 4, 3, 2, 1, 0]

/-- DESIGN CHOICE (log 1, unsafe for claims about `State.reset` alone): the configuration of the device that
`State.reset` shows, program P4's of 95_test_vectors.md (the default configuration with table `FIX` and
`calib_offset = 2`). The spec leaves every field OPEN; the addresses and the poll delay are the model's. -/
def Config.fixture : Config where
  n := 8
  fourTapHs400 := false
  hs400Disabled := false
  dtranendAltBit := false
  manualCalib := false
  calibOffset := 2
  calibTable := some CalibTable.fix
  portVariant := 0
  capBusyBit := true
  capHs400Autocorr := true
  capHs400DataTracking := true
  tuningEnabled := true
  hs400FourTapCheck := false
  pollLimit := 3
  pollDelay := 1
  baseGcb := 0
  baseCtb := 0x1000
  regSpacing := 4
  platHandle := 0
  regIndex := []
  wpUnlockCode := 0xA500#32
  tapposHs400 := 0x100#32
  tapposDefault := 0x300#32
  platHs400On := 0x1#32
  platHs400Off := 0x0#32

end Sys2Proof
end

