-- ==== Sys2Proof/Syntax.lean ====
section
/-! DEFINITION. The fourteen commands (30_encoding.md R97), their mnemonics and the pseudo-commands
(R101, R102). "Instruction" means a TWS command (00_scope.md R1). -/

namespace Sys2Proof

/-- A command with its operands, each operand as wide as its field (30_encoding.md R91 to R97). A value out of
the range its rule accepts (R99) is still a legal command: it ends with `BadOperand` when it runs. -/
inductive Instr where
  /-- `NOP` (40_register_sequencer.md R116). -/
  | nop
  /-- `TBEGIN` (42_probe_bitmap.md R141). -/
  | tbegin
  /-- `PROBE idx, p` (42_probe_bitmap.md R142). -/
  | probe (p : Bool) (idx : BitVec 8)
  /-- `LDBL imm16` (42_probe_bitmap.md R143). -/
  | ldbl (imm16 : BitVec 16)
  /-- `LDBH imm16` (42_probe_bitmap.md R144). -/
  | ldbh (imm16 : BitVec 16)
  /-- `TUNE` (43_window_selector.md R155). -/
  | tune
  /-- `SETTM imm8` (44_retune_monitor.md R165). -/
  | settm (imm8 : BitVec 8)
  /-- `DRIFT` (44_retune_monitor.md R172). -/
  | drift
  /-- `HS4ENT` (45_hs400_sequencer.md R186). -/
  | hs4ent
  /-- `HS4EXT` (45_hs400_sequencer.md R187). -/
  | hs4ext
  /-- `HWRST` (45_hs400_sequencer.md R188). -/
  | hwrst
  /-- `CLKUP imm8` (41_calibration.md R126). -/
  | clkup (imm8 : BitVec 8)
  /-- `MCALEN` (41_calibration.md R128). -/
  | mcalen
  /-- `MCALDIS` (41_calibration.md R130). -/
  | mcaldis
  deriving DecidableEq, Repr

/-- The timing modes SETTM can name (10_state.md R23). -/
inductive Timing where
  | other
  | sdr104
  | hs200
  | hs400
  deriving DecidableEq, Repr

/-- A mnemonic of the assembler syntax (30_encoding.md R101) or a pseudo-command (R102). -/
inductive Mnemonic where
  | nop | tbegin | probe | ldbl | ldbh | tune | settm | drift | hs4ent | hs4ext | hwrst | clkup | mcalen | mcaldis
  | ldbm | probes
  deriving DecidableEq, Repr

/-- An operand as the assembler reads it (30_encoding.md R101): a number, a mode name for SETTM, PASS or FAIL for
PROBE. -/
inductive AsmOperand where
  | number (v : Nat)
  | mode (t : Timing)
  | pass
  | fail
  deriving DecidableEq, Repr

end Sys2Proof
end

