-- ==== Sys2Proof/WellFormed.lean ====
section
/-! DEFINITION. The checks: a well-formed configuration (00_scope.md R13), one definition per clause, with the
addresses of the target registers they speak of (20_memory.md R62), and the operand range of a command
(30_encoding.md R99). -/

namespace Sys2Proof

/-- The block of a target register (10_state.md R42 to R56). -/
def Target.block : Target → Block
  | .plain .gcbClkctl => .gcb
  | .volatile .gcbStatus => .gcb
  | .plain .gcbIfmode => .gcb
  | .plain .platCtrl => .plat
  | .plain _ => .ctb
  | .volatile _ => .ctb

/-- The default index of a target register in its block (10_state.md R42 to R55); `PLAT_CTRL` has none. -/
def Target.defaultIndex : Target → Nat
  | .plain .gcbClkctl => 0
  | .volatile .gcbStatus => 1
  | .plain .gcbIfmode => 2
  | .plain .ctbTapcfg => 0
  | .plain .ctbTapset => 1
  | .plain .ctbTappos => 2
  | .plain .ctbRvscntl => 3
  | .volatile .ctbRvsreq => 4
  | .volatile .ctbSmpcmp => 5
  | .plain .ctbAdjctl => 6
  | .plain .ctbWpunlock => 7
  | .volatile .ctbCalcode => 8
  | .plain .ctbMancal => 9
  | .plain .ctbCalofs => 10
  | .plain .platCtrl => 0

/-- The registers of the general control block, by default index (10_state.md R41). -/
def Target.gcbRegisters : List Target :=
  [.plain .gcbClkctl, .volatile .gcbStatus, .plain .gcbIfmode]

/-- The registers of the calibration/timing block, by default index (10_state.md R41). -/
def Target.ctbRegisters : List Target :=
  [.plain .ctbTapcfg, .plain .ctbTapset, .plain .ctbTappos, .plain .ctbRvscntl, .volatile .ctbRvsreq,
    .volatile .ctbSmpcmp, .plain .ctbAdjctl, .plain .ctbWpunlock, .volatile .ctbCalcode, .plain .ctbMancal,
    .plain .ctbCalofs]

/-- `idx(r)` (20_memory.md R62): the entry of `REG_INDEX`, else the default index. -/
def Config.index (c : Config) (r : Target) : Nat :=
  match c.regIndex.find? (fun e => decide (e.1 = r)) with
  | some e => e.2
  | none => r.defaultIndex

/-- `addr(r) = BASE_b + idx(r) * REG_SPACING` (20_memory.md R62); `PLAT_CTRL` has no address in this scheme. -/
def Config.addr (c : Config) (r : Target) : Option Nat :=
  match r.block with
  | .gcb => some (c.baseGcb + c.index r * c.regSpacing)
  | .ctb => some (c.baseCtb + c.index r * c.regSpacing)
  | .plat => none

/-- The first byte address past the 32-bit register of a block that lies highest (R13's "address range"; log 6). -/
def Config.blockEnd (c : Config) (base : Nat) (regs : List Target) : Nat :=
  regs.foldl (fun hi r => max hi (base + c.index r * c.regSpacing + 4)) base

/-- `1 <= N <= 16` (R13). -/
def Config.tapCountOk (c : Config) : Bool := decide (1 ≤ c.n) && decide (c.n ≤ 16)

/-- `four_tap_hs400` implies `N` even (R13). -/
def Config.fourTapOk (c : Config) : Bool := !c.fourTapHs400 || decide (c.n % 2 = 0)

/-- `calib_offset <= 3` (R13). -/
def Config.offsetOk (c : Config) : Bool := decide (c.calibOffset ≤ 3)

/-- Every table entry `<= 31` (R13). -/
def Config.tableOk (c : Config) : Bool :=
  match c.calibTable with
  | none => true
  | some t => t.variant0.toList.all (fun e => decide (e ≤ 31)) && t.variant1.toList.all (fun e => decide (e ≤ 31))

/-- `REG_SPACING` in `{2, 4, 8}` (R13). -/
def Config.spacingOk (c : Config) : Bool :=
  decide (c.regSpacing = 2) || decide (c.regSpacing = 4) || decide (c.regSpacing = 8)

/-- `POLL_LIMIT >= 1` (R13). -/
def Config.pollOk (c : Config) : Bool := decide (1 ≤ c.pollLimit)

/-- `BASE_GCB` and `BASE_CTB` are multiples of 4 (R13). -/
def Config.basesOk (c : Config) : Bool := decide (c.baseGcb % 4 = 0) && decide (c.baseCtb % 4 = 0)

/-- The two blocks' address ranges do not overlap (R13; log 6). -/
def Config.rangesOk (c : Config) : Bool :=
  decide (c.blockEnd c.baseGcb Target.gcbRegisters ≤ c.baseCtb) ||
    decide (c.blockEnd c.baseCtb Target.ctbRegisters ≤ c.baseGcb)

/-- The registers of a block have distinct indices (DEDUCED from R62, "distinct registers have distinct
addresses"; log 6). -/
def Config.indicesOk (c : Config) : Bool :=
  decide (Target.gcbRegisters.map c.index).Nodup && decide (Target.ctbRegisters.map c.index).Nodup

/-- A well-formed configuration (00_scope.md R13). -/
def Config.wf (c : Config) : Bool :=
  c.tapCountOk && c.fourTapOk && c.offsetOk && c.tableOk && c.spacingOk && c.pollOk && c.basesOk && c.rangesOk &&
    c.indicesOk

/-- A command whose operand is in the range its rule accepts (30_encoding.md R99), for tap count `n`: PROBE
needs `idx < 2N`, SETTM needs `imm8 <= 3`, every other command takes every operand. -/
def Instr.wellFormed (n : Nat) : Instr → Bool
  | .probe _ idx => decide (idx.toNat < 2 * n)
  | .settm imm8 => decide (imm8.toNat ≤ 3)
  | .nop | .tbegin | .ldbl _ | .ldbh _ | .tune | .drift | .hs4ent | .hs4ext | .hwrst | .clkup _ | .mcalen
  | .mcaldis => true

end Sys2Proof
end

