-- ==== Sys2Proof/Decode.lean ====
section
/-! DEFINITION. Command words (30_encoding.md): the decoder, total on every 32-bit word and rejecting by name
(R98), the encoder (R103), the opcode table as mask and pattern (R97, R98), and the assembler with its
pseudo-commands (R101, R102). -/

namespace Sys2Proof

/-- Why a word is no legal command (R98). Either way TWS reports `IllegalCommand` (60_exceptions.md R218). -/
inductive IllegalWord where
  /-- One of the 242 opcodes no command uses. -/
  | unusedOpcode (op : BitVec 8)
  /-- A used opcode with a non-zero reserved bit. -/
  | reservedBits (op : BitVec 8)
  deriving DecidableEq, Repr

/-- `word[31:24]` (R90). -/
def opcode (w : Word) : BitVec 8 := w.extractLsb' 24 8

/-- `word[7:0]`: `imm8` of format I8, `idx` of format PB (R93, R95). -/
def lowByte (w : Word) : BitVec 8 := w.extractLsb' 0 8

/-- `word[15:0]`: `imm16` of format I16 (R94). -/
def lowHalf (w : Word) : BitVec 16 := w.extractLsb' 0 16

/-- `word[8]`: `p` of format PB (R95). -/
def passBit (w : Word) : Bool := w.getLsbD 8

/-- A legal command when the reserved bits, `word[23:lo]`, are zero (R98). -/
def withReservedFrom (lo : Nat) (w : Word) (i : Instr) : Except IllegalWord Instr :=
  if w.extractLsb' lo (24 - lo) = 0 then .ok i else .error (.reservedBits (opcode w))

/-- Format Z: `word[23:0] = 0` (R92). -/
def decodeZ (w : Word) (i : Instr) : Except IllegalWord Instr := withReservedFrom 0 w i

/-- Format I8: `word[23:8] = 0` (R93). -/
def decodeI8 (w : Word) (f : BitVec 8 → Instr) : Except IllegalWord Instr := withReservedFrom 8 w (f (lowByte w))

/-- Format I16: `word[23:16] = 0` (R94). -/
def decodeI16 (w : Word) (f : BitVec 16 → Instr) : Except IllegalWord Instr := withReservedFrom 16 w (f (lowHalf w))

/-- Format PB: `word[23:9] = 0` (R95). -/
def decodePB (w : Word) (f : Bool → BitVec 8 → Instr) : Except IllegalWord Instr :=
  withReservedFrom 9 w (f (passBit w) (lowByte w))

/-- The decoder (R97, R98): every word is exactly one legal command or illegal. -/
def decode (w : Word) : Except IllegalWord Instr :=
  if opcode w = 0x00#8 then decodeZ w .nop
  else if opcode w = 0x10#8 then decodeZ w .tbegin
  else if opcode w = 0x11#8 then decodePB w .probe
  else if opcode w = 0x12#8 then decodeI16 w .ldbl
  else if opcode w = 0x13#8 then decodeI16 w .ldbh
  else if opcode w = 0x20#8 then decodeZ w .tune
  else if opcode w = 0x30#8 then decodeI8 w .settm
  else if opcode w = 0x31#8 then decodeZ w .drift
  else if opcode w = 0x40#8 then decodeZ w .hs4ent
  else if opcode w = 0x41#8 then decodeZ w .hs4ext
  else if opcode w = 0x42#8 then decodeZ w .hwrst
  else if opcode w = 0x50#8 then decodeI8 w .clkup
  else if opcode w = 0x51#8 then decodeZ w .mcalen
  else if opcode w = 0x52#8 then decodeZ w .mcaldis
  else .error (.unusedOpcode (opcode w))

/-- The instruction the decoder reads from the opcode table's bits: a command is one 32-bit word (R90), so bits
past 32, which no command has, are refused. -/
def decodeTableWord (nbits w : Nat) : Option Instr :=
  if w % 2 ^ nbits < 2 ^ 32 then (decode (BitVec.ofNat 32 (w % 2 ^ nbits))).toOption else none

/-- `enc(Z, op)` (R103). -/
def encodeZ (op : BitVec 8) : Word := op.setWidth 32 <<< 24

/-- `enc(I8, op, imm8)` (R103). -/
def encodeI8 (op imm8 : BitVec 8) : Word := encodeZ op ||| imm8.setWidth 32

/-- `enc(I16, op, imm16)` (R103). -/
def encodeI16 (op : BitVec 8) (imm16 : BitVec 16) : Word := encodeZ op ||| imm16.setWidth 32

/-- `enc(PB, op, idx, p)` (R103). -/
def encodePB (op : BitVec 8) (p : Bool) (idx : BitVec 8) : Word :=
  encodeZ op ||| (BitVec.ofBool p).setWidth 32 <<< 8 ||| idx.setWidth 32

/-- The encoder (R97, R103). -/
def encode : Instr → Word
  | .nop => encodeZ 0x00#8
  | .tbegin => encodeZ 0x10#8
  | .probe p idx => encodePB 0x11#8 p idx
  | .ldbl imm16 => encodeI16 0x12#8 imm16
  | .ldbh imm16 => encodeI16 0x13#8 imm16
  | .tune => encodeZ 0x20#8
  | .settm imm8 => encodeI8 0x30#8 imm8
  | .drift => encodeZ 0x31#8
  | .hs4ent => encodeZ 0x40#8
  | .hs4ext => encodeZ 0x41#8
  | .hwrst => encodeZ 0x42#8
  | .clkup imm8 => encodeI8 0x50#8 imm8
  | .mcalen => encodeZ 0x51#8
  | .mcaldis => encodeZ 0x52#8

/-- One row of the opcode table: a word belongs to it when `word & mask == pattern` (R98). -/
structure OpcodeRow where
  mnemonic : Mnemonic
  pattern : Word
  mask : Word
  deriving DecidableEq, Repr

/-- The opcode table (R97, R98). -/
def opcodeRows : List OpcodeRow :=
  [⟨.nop, 0x00000000#32, 0xFFFFFFFF#32⟩, ⟨.tbegin, 0x10000000#32, 0xFFFFFFFF#32⟩,
    ⟨.probe, 0x11000000#32, 0xFFFFFE00#32⟩, ⟨.ldbl, 0x12000000#32, 0xFFFF0000#32⟩,
    ⟨.ldbh, 0x13000000#32, 0xFFFF0000#32⟩, ⟨.tune, 0x20000000#32, 0xFFFFFFFF#32⟩,
    ⟨.settm, 0x30000000#32, 0xFFFFFF00#32⟩, ⟨.drift, 0x31000000#32, 0xFFFFFFFF#32⟩,
    ⟨.hs4ent, 0x40000000#32, 0xFFFFFFFF#32⟩, ⟨.hs4ext, 0x41000000#32, 0xFFFFFFFF#32⟩,
    ⟨.hwrst, 0x42000000#32, 0xFFFFFFFF#32⟩, ⟨.clkup, 0x50000000#32, 0xFFFFFF00#32⟩,
    ⟨.mcalen, 0x51000000#32, 0xFFFFFFFF#32⟩, ⟨.mcaldis, 0x52000000#32, 0xFFFFFFFF#32⟩]

/-- A word belongs to a row of the opcode table (R98). -/
def OpcodeRow.covers (row : OpcodeRow) (w : Word) : Bool := decide (w &&& row.mask = row.pattern)

/-- The mnemonic of a command (R97). -/
def Instr.mnemonic : Instr → Mnemonic
  | .nop => .nop
  | .tbegin => .tbegin
  | .probe _ _ => .probe
  | .ldbl _ => .ldbl
  | .ldbh _ => .ldbh
  | .tune => .tune
  | .settm _ => .settm
  | .drift => .drift
  | .hs4ent => .hs4ent
  | .hs4ext => .hs4ext
  | .hwrst => .hwrst
  | .clkup _ => .clkup
  | .mcalen => .mcalen
  | .mcaldis => .mcaldis

/-- The spelling of a mnemonic (R101, R102). -/
def Mnemonic.text : Mnemonic → String
  | .nop => "NOP"
  | .tbegin => "TBEGIN"
  | .probe => "PROBE"
  | .ldbl => "LDBL"
  | .ldbh => "LDBH"
  | .tune => "TUNE"
  | .settm => "SETTM"
  | .drift => "DRIFT"
  | .hs4ent => "HS4ENT"
  | .hs4ext => "HS4EXT"
  | .hwrst => "HWRST"
  | .clkup => "CLKUP"
  | .mcalen => "MCALEN"
  | .mcaldis => "MCALDIS"
  | .ldbm => "LDBM"
  | .probes => "PROBES"

/-- The code of a timing mode (10_state.md R23). -/
def Timing.code : Timing → BitVec 2
  | .other => 0#2
  | .sdr104 => 1#2
  | .hs200 => 2#2
  | .hs400 => 3#2

/-- The value of PROBE's second operand: 1 or `PASS`, 0 or `FAIL` (R101). -/
def AsmOperand.passValue : AsmOperand → Option Bool
  | .number 0 => some false
  | .number 1 => some true
  | .pass => some true
  | .fail => some false
  | .number _ | .mode _ => none

/-- `LDBM imm32` is `LDBL imm32[15:0]` and then `LDBH imm32[31:16]` (R102). -/
def expandLdbm (imm32 : Word) : List Instr := [.ldbl (imm32.extractLsb' 0 16), .ldbh (imm32.extractLsb' 16 16)]

/-- `PROBES imm32` is `TBEGIN` and then `LDBM imm32` (R102). -/
def expandProbes (imm32 : Word) : List Instr := .tbegin :: expandLdbm imm32

/-- The commands of one line of assembler text, given its mnemonic and operands (R101, R102; log 15). A number
that does not fit its field, and an operand list the syntax does not have, is no line. -/
def assemble : Mnemonic → List AsmOperand → Option (List Instr)
  | .nop, [] => some [.nop]
  | .tbegin, [] => some [.tbegin]
  | .probe, [.number i, p] => if i < 2 ^ 8 then p.passValue.map fun b => [.probe b (BitVec.ofNat 8 i)] else none
  | .ldbl, [.number v] => if v < 2 ^ 16 then some [.ldbl (BitVec.ofNat 16 v)] else none
  | .ldbh, [.number v] => if v < 2 ^ 16 then some [.ldbh (BitVec.ofNat 16 v)] else none
  | .tune, [] => some [.tune]
  | .settm, [.number v] => if v < 2 ^ 8 then some [.settm (BitVec.ofNat 8 v)] else none
  | .settm, [.mode t] => some [.settm (t.code.setWidth 8)]
  | .drift, [] => some [.drift]
  | .hs4ent, [] => some [.hs4ent]
  | .hs4ext, [] => some [.hs4ext]
  | .hwrst, [] => some [.hwrst]
  | .clkup, [.number v] => if v < 2 ^ 8 then some [.clkup (BitVec.ofNat 8 v)] else none
  | .mcalen, [] => some [.mcalen]
  | .mcaldis, [] => some [.mcaldis]
  | .ldbm, [.number v] => if v < 2 ^ 32 then some (expandLdbm (BitVec.ofNat 32 v)) else none
  | .probes, [.number v] => if v < 2 ^ 32 then some (expandProbes (BitVec.ofNat 32 v)) else none
  | _, _ => none

end Sys2Proof
end

