-- ==== Sys2Proof/Machine/State.lean ====
section
/-! DEFINITION. The state of the machine as plain data: the state tuple of TWS (10_state.md R20), the configuration,
the target registers (R41 to R56), the bus trace (00_scope.md R18) and the moves of the outside world that wait
(R19); the reasons a step can stop; and the machine right after the power-on reset (R58, R240). -/

namespace Sys2Proof.Machine

open Sys2Proof

/-- `err`, the outcome of the last command word (10_state.md R27); the codes 6 to 15 never occur. -/
inductive Err where
  /-- 0. -/
  | ok
  /-- 1, E_NO_STABLE_WINDOW. -/
  | noStableWindow
  /-- 2, E_IDLE_TIMEOUT. -/
  | idleTimeout
  /-- 3, E_ILLEGAL_CMD. -/
  | illegalCmd
  /-- 4, E_BAD_OPERAND. -/
  | badOperand
  /-- 5, E_DISABLED. -/
  | disabled
  deriving DecidableEq, Repr

/-- `drift_ev`, the DriftEvent of the last DRIFT (10_state.md R28). -/
inductive DriftEvent where
  /-- 0. -/
  | noError
  /-- 1. -/
  | tapUp
  /-- 2. -/
  | tapDown
  /-- 3. -/
  | retuneRequired
  deriving DecidableEq, Repr

/-- What the plain target registers hold (20_memory.md R69). -/
structure Store where
  gcbClkctl : Word
  gcbIfmode : Word
  ctbTapcfg : Word
  ctbTapset : Word
  ctbTappos : Word
  ctbRvscntl : Word
  ctbAdjctl : Word
  ctbWpunlock : Word
  ctbMancal : Word
  ctbCalofs : Word
  platCtrl : Word
  deriving DecidableEq, Repr

/-- MODEL'S FIELD for a free value (log 3): what one volatile register shows. The next reads return the values of
`pending`, first one first; `reads` counts the reads made so far, and a read with nothing pending returns the free
value `Config.volatileRead` of that count. -/
structure Source where
  pending : List Word
  reads : Nat
  deriving DecidableEq, Repr

/-- The sources of the four volatile registers (20_memory.md R69). -/
structure Sources where
  gcbStatus : Source
  ctbRvsreq : Source
  ctbSmpcmp : Source
  ctbCalcode : Source
  deriving DecidableEq, Repr

/-- One event of the bus trace (00_scope.md R18). -/
inductive BusEvent where
  /-- `R(reg)=value`. -/
  | read (r : Target) (v : Word)
  /-- `W(reg, value)`. -/
  | write (r : Target) (v : Word)
  /-- `PW(value)`. -/
  | plat (v : Word)
  deriving DecidableEq, Repr

/-- A move of the world outside TWS (00_scope.md R19; log 4), taken by one step between commands. -/
inductive Move where
  /-- The host writes `value` at a host-port byte offset, with a transfer of `width` bytes (10_state.md R34). -/
  | hostWrite (offset width : Nat) (value : Word)
  /-- The host reads the host port (10_state.md R34). -/
  | hostRead (offset width : Nat)
  /-- The host or a collaborator writes a target register (20_memory.md R74). -/
  | busWrite (r : Target) (v : Word)
  /-- The host or a collaborator reads a target register (20_memory.md R74). -/
  | busRead (r : Target)
  /-- The reset input is asserted and released (70_reset_and_hazards.md R240). -/
  | powerOn
  deriving DecidableEq, Repr

/-- Nothing stops this machine with a fault: every failure of TWS is an outcome of the command, reported in `err`,
after which TWS accepts every command as before (60_exceptions.md R227). Nobody raises it, so it is safe. -/
inductive Fault where
  deriving DecidableEq, Repr

/-- Why the model gives a situation no meaning. -/
inductive Refusal where
  /-- Raised by an arm of `exec` whose command has no meaning yet. Safe: no claim about the command can be proved. -/
  | notModelled (mnemonic : String)
  /-- Raised by every step and every command of a device whose configuration is not well formed: "a model should refuse
  any other" (00_scope.md R13, U10). Safe: the spec gives such a device no meaning. -/
  | illFormedConfig
  /-- Raised by a host-port access that is not 32 bits wide or not at a multiple of 4: "a model should refuse it"
  (20_memory.md R61, U12). Safe: the spec gives it no defined effect. -/
  | hostAccess
  deriving DecidableEq, Repr

/-- The state of the machine. The first sixteen fields are the state tuple of TWS (10_state.md R20). -/
structure State where
  /-- `bitmap` (R21). -/
  bitmap : Word
  /-- `tap_set` (R22), always in full resolution. -/
  tapSet : Octet
  /-- `timing` (R23). -/
  timing : Timing
  /-- `tuning_active` (R24). -/
  tuningActive : Bool
  /-- `needs_adjust` (R25). -/
  needsAdjust : Bool
  /-- `mcal_active` (R26). -/
  mcalActive : Bool
  /-- `err` (R27). -/
  err : Err
  /-- `drift_ev` (R28). -/
  driftEv : DriftEvent
  /-- `stk_timeout` (R29). -/
  stkTimeout : Bool
  /-- `stk_illegal` (R29). -/
  stkIllegal : Bool
  /-- `result_val` (R30). -/
  resultVal : Octet
  /-- `result_fstep` (R30). -/
  resultFstep : Octet
  /-- `win_start` (R31). -/
  winStart : Octet
  /-- `win_end` (R31). -/
  winEnd : Octet
  /-- `win_len` (R31). -/
  winLen : Octet
  /-- `win_valid` (R31). -/
  winValid : Bool
  /-- The configuration of the device (R33, R57 f; log 1). -/
  cfg : Config
  /-- The plain target registers (R69). -/
  store : Store
  /-- The volatile target registers (R69; log 3). -/
  sources : Sources
  /-- The bus trace: every event of TWS so far, oldest first (00_scope.md R18; log 5). -/
  trace : List BusEvent
  /-- MODEL'S FIELD: the moves of the outside world still to come, next one first (log 4). -/
  inbox : List Move
  /-- MODEL'S FIELD: the value the last `hostRead` or `busRead` returned (log 7). -/
  readData : Word
  deriving DecidableEq, Repr

/-- The plain store right after the power-on reset: free values (U3; log 2). -/
def Store.atReset : Store where
  gcbClkctl := Config.targetAtReset .gcbClkctl
  gcbIfmode := Config.targetAtReset .gcbIfmode
  ctbTapcfg := Config.targetAtReset .ctbTapcfg
  ctbTapset := Config.targetAtReset .ctbTapset
  ctbTappos := Config.targetAtReset .ctbTappos
  ctbRvscntl := Config.targetAtReset .ctbRvscntl
  ctbAdjctl := Config.targetAtReset .ctbAdjctl
  ctbWpunlock := Config.targetAtReset .ctbWpunlock
  ctbMancal := Config.targetAtReset .ctbMancal
  ctbCalofs := Config.targetAtReset .ctbCalofs
  platCtrl := Config.targetAtReset .platCtrl

/-- No read has been made and none is settled in advance (DESIGN CHOICE, log 3). -/
def Sources.atReset : Sources where
  gcbStatus := ⟨[], 0⟩
  ctbRvsreq := ⟨[], 0⟩
  ctbSmpcmp := ⟨[], 0⟩
  ctbCalcode := ⟨[], 0⟩

/-- A device of configuration `c` right after the power-on reset (10_state.md R58, 70_reset_and_hazards.md R240,
R241). -/
def State.resetWith (c : Config) : State where
  bitmap := 0
  tapSet := 0
  timing := .other
  tuningActive := false
  needsAdjust := false
  mcalActive := false
  err := .ok
  driftEv := .noError
  stkTimeout := false
  stkIllegal := false
  resultVal := 0
  resultFstep := 0
  winStart := 0
  winEnd := 0
  winLen := 0
  winValid := false
  cfg := c
  store := Store.atReset
  sources := Sources.atReset
  trace := []
  inbox := []
  readData := 0

/-- The machine right after reset, for the device of the fixture configuration (DESIGN CHOICE, log 1). -/
def State.reset : State := State.resetWith Config.fixture

end Sys2Proof.Machine
end

