-- ==== Sys2Proof/Machine/Flags.lean ====
section
/-! DEFINITION. Every flag TWS tests and every flag word it shows: the fields of the target registers
(10_state.md R42 to R55), the idle test (40_register_sequencer.md R111), the classification of a drift check
(44_retune_monitor.md R166, R169) and the five readable host-port registers (10_state.md R36 to R40). -/

namespace Sys2Proof.Machine

open Sys2Proof

/-- `SCLKEN`, bit 8 of `GCB_CLKCTL` (R42). -/
def sclkenMask : Word := 0x100#32

/-- `HS400`, bit 0 of `GCB_IFMODE` (R44). -/
def hs400Mask : Word := 0x1#32

/-- `TAPNUM`, bits [7:0] of `CTB_TAPCFG` (R45). -/
def tapnumMask : Word := 0xFF#32

/-- `RVSEN`, bit 0 of `CTB_RVSCNTL` (R48). -/
def rvsenMask : Word := 0x1#32

/-- `RVSERR`, bit 2 of `CTB_RVSREQ` (R49). -/
def rvserrMask : Word := 0x4#32

/-- `ADJEN`, bits [1:0] of `CTB_ADJCTL` (R51). -/
def adjenMask : Word := 0x3#32

/-- `MANUAL_MODE_BIT`, bit 7 of `CTB_MANCAL` (R54). -/
def manualModeMask : Word := 0x80#32

/-- The idle test on a value read from `GCB_STATUS` (R111): `CBSY` (bit 14) reads 0, or, on a device without a busy
bit, `SCLKDIVEN` (bit 13) reads 1. -/
def idle (c : Config) (v : Word) : Bool := if c.capBusyBit then !v.getLsbD 14 else v.getLsbD 13

/-- `RVSEN` of a value read from `CTB_RVSCNTL` (R48, R167). -/
def autoCorrectOn (v : Word) : Bool := v.getLsbD 0

/-- `RVSERR` of a value read from `CTB_RVSREQ` (R49). -/
def errorFlag (q : Word) : Bool := q.getLsbD 2

/-- `REQUP` of a value read from `CTB_RVSREQ` (R49). -/
def upRequest (q : Word) : Bool := q.getLsbD 1

/-- `REQDOWN` of a value read from `CTB_RVSREQ` (R49). -/
def downRequest (q : Word) : Bool := q.getLsbD 0

/-- `CMD_UP` of a value read from `CTB_SMPCMP` (R50). -/
def commandUp (v : Word) : Bool := v.getLsbD 24

/-- `CMD_DOWN` of a value read from `CTB_SMPCMP` (R50). -/
def commandDown (v : Word) : Bool := v.getLsbD 8

/-- `RetuneMode(timing)` (R166). -/
def retuneMode (c : Config) : Timing → Bool
  | .other => false
  | .sdr104 => true
  | .hs200 => true
  | .hs400 => !c.fourTapHs400 || c.hs400FourTapCheck

/-- `Gate` (R166): whether DRIFT checks at all. -/
def driftGate (s : State) : Bool := s.cfg.tuningEnabled && retuneMode s.cfg s.timing && !s.tuningActive

/-- `SpecialCase` (R169). -/
def specialCase (s : State) : Bool := decide (s.timing = .hs400) && !s.cfg.capHs400DataTracking

/-- `ClassifySpecial(up, down)` (R169). -/
def classifySpecial : Bool → Bool → DriftEvent
  | false, false => .noError
  | true, false => .tapUp
  | false, true => .tapDown
  | true, true => .retuneRequired

/-- `ClassifyNormal(q)` (R169): the error flag, then up, then down. -/
def classifyNormal (q : Word) : DriftEvent :=
  if errorFlag q then .retuneRequired
  else if upRequest q then .tapUp
  else if downRequest q then .tapDown
  else .noError

/-- The code of `err` (R27). -/
def Err.code : Err → BitVec 4
  | .ok => 0#4
  | .noStableWindow => 1#4
  | .idleTimeout => 2#4
  | .illegalCmd => 3#4
  | .badOperand => 4#4
  | .disabled => 5#4

/-- The code of `drift_ev` (R28). -/
def DriftEvent.code : DriftEvent → BitVec 2
  | .noError => 0#2
  | .tapUp => 1#2
  | .tapDown => 2#2
  | .retuneRequired => 3#2

/-- A field's value at its place in a 32-bit register, whose lowest bit is `lo`. -/
def placed (lo : Nat) {width : Nat} (v : BitVec width) : Word := v.setWidth 32 <<< lo

/-- A one-bit field at its place. -/
def placedBit (lo : Nat) (b : Bool) : Word := placed lo (BitVec.ofBool b)

/-- STATUS (R36). -/
def statusWord (s : State) : Word :=
  placed 0 s.err.code ||| placed 4 s.driftEv.code ||| placedBit 6 s.stkTimeout ||| placedBit 7 s.stkIllegal |||
    placedBit 8 s.tuningActive ||| placedBit 9 s.needsAdjust ||| placedBit 10 s.mcalActive |||
    placed 12 s.timing.code ||| placed 16 s.tapSet

/-- RESULT (R37). -/
def resultWord (s : State) : Word := placed 0 s.resultVal ||| placed 8 s.resultFstep

/-- WINDOW (R38). -/
def windowWord (s : State) : Word :=
  placed 0 s.winStart ||| placed 8 s.winEnd ||| placed 16 s.winLen ||| placedBit 31 s.winValid

/-- BITMAP (R39). -/
def bitmapWord (s : State) : Word := s.bitmap

/-- CFG (R40). -/
def cfgWord (c : Config) : Word :=
  placed 0 (BitVec.ofNat 5 c.n) ||| placedBit 8 c.fourTapHs400 ||| placedBit 9 c.hs400Disabled |||
    placedBit 10 c.dtranendAltBit ||| placedBit 11 c.manualCalib ||| placed 12 (BitVec.ofNat 2 c.calibOffset) |||
    placedBit 14 c.calibTable.isSome ||| placedBit 15 (decide (c.portVariant = 1)) ||| placedBit 16 c.capBusyBit |||
    placedBit 17 c.capHs400Autocorr ||| placedBit 18 c.capHs400DataTracking ||| placedBit 19 c.tuningEnabled |||
    placedBit 20 c.hs400FourTapCheck

end Sys2Proof.Machine
end

