-- ==== Sys2Proof/Machine/Operands.lean ====
section
/-! DEFINITION. The operand forms of the commands (30_encoding.md R93 to R96, R99) and the tap values written to the
hardware (43_window_selector.md R154, 44_retune_monitor.md R171). -/

namespace Sys2Proof.Machine

open Sys2Proof

/-- The raw calibration code: the low five bits of an operand or of a value read (41_calibration.md R125). -/
def rawCode {width : Nat} (v : BitVec width) : BitVec 5 := v.setWidth 5

/-- `Lookup(c)` in the variant the configuration selects (41_calibration.md R125). -/
def lookup (t : CalibTable) (variant : Fin 2) (c : BitVec 5) : Nat :=
  if variant = 0 then t.variant0[c.toNat]'c.isLt else t.variant1[c.toNat]'c.isLt

/-- SETTM's operand, `imm8[1:0]`, as a timing mode (44_retune_monitor.md R165). -/
def timingOf (imm8 : BitVec 8) : Timing :=
  if imm8.extractLsb' 0 2 = 0#2 then .other
  else if imm8.extractLsb' 0 2 = 1#2 then .sdr104
  else if imm8.extractLsb' 0 2 = 2#2 then .hs200
  else .hs400

/-- `bitmap[i] <- v` (42_probe_bitmap.md R142). -/
def setBit (b : Word) (i : Nat) (v : Bool) : Word :=
  if v then b ||| BitVec.twoPow 32 i else b &&& ~~~ BitVec.twoPow 32 i

/-- The first `count` iterations of the loop of LDBL (`base = 0`) and LDBH (`base = 16`): bit `j` of the immediate
goes to index `base + j` where that index is below `2N` (42_probe_bitmap.md R143, R144). -/
def loadBits (n base : Nat) (imm16 : BitVec 16) : Nat → Word → Word
  | 0, b => b
  | j + 1, b =>
    let b' := loadBits n base imm16 j b
    if base + j < 2 * n then setBit b' (base + j) (imm16.getLsbD j) else b'

/-- `zext_32` of a tap or of a count (00_scope.md R14). -/
def tapWord (t : Nat) : Word := BitVec.ofNat 32 t

/-- `HwTapTune(t)` (43_window_selector.md R154): halved under the 4-tap quirk while the timing mode is HS400. -/
def hwTapTune (c : Config) (timing : Timing) (t : Nat) : Nat :=
  if c.fourTapHs400 && decide (timing = .hs400) then t / 2 else t

/-- `HwTapDrift(t)` (44_retune_monitor.md R171): halved under the 4-tap quirk. -/
def hwTapDrift (c : Config) (t : Nat) : Nat := if c.fourTapHs400 then t / 2 else t

/-- The tap one position up, with wrap-around (44_retune_monitor.md R171). -/
def tapAbove (n t : Nat) : Nat := (t + 1) % n

/-- The tap one position down, with wrap-around (44_retune_monitor.md R171). -/
def tapBelow (n t : Nat) : Nat := (t + n - 1) % n

end Sys2Proof.Machine
end

