-- ==== Sys2Proof/Machine/Ops.lean ====
section
/-! DEFINITION. The operations the commands share: the access primitives RegRead, RegWrite and PlatWrite
(20_memory.md R66 to R69), the protected write (40_register_sequencer.md R110, R185), procedures and how they end
(00_scope.md R17), TAKING A FAILURE OUTCOME (60_exceptions.md R215 to R220) as one operation, and the power-on
reset (70_reset_and_hazards.md R240). -/

namespace Sys2Proof.Machine

open Sys2Proof

/-! ### Registers -/

/-- The value a plain register holds (R69). -/
def Store.get (m : Store) : PlainReg → Word
  | .gcbClkctl => m.gcbClkctl
  | .gcbIfmode => m.gcbIfmode
  | .ctbTapcfg => m.ctbTapcfg
  | .ctbTapset => m.ctbTapset
  | .ctbTappos => m.ctbTappos
  | .ctbRvscntl => m.ctbRvscntl
  | .ctbAdjctl => m.ctbAdjctl
  | .ctbWpunlock => m.ctbWpunlock
  | .ctbMancal => m.ctbMancal
  | .ctbCalofs => m.ctbCalofs
  | .platCtrl => m.platCtrl

/-- A plain register replaced as a whole (R67, R70). -/
def Store.put (m : Store) (r : PlainReg) (v : Word) : Store :=
  match r with
  | .gcbClkctl => { m with gcbClkctl := v }
  | .gcbIfmode => { m with gcbIfmode := v }
  | .ctbTapcfg => { m with ctbTapcfg := v }
  | .ctbTapset => { m with ctbTapset := v }
  | .ctbTappos => { m with ctbTappos := v }
  | .ctbRvscntl => { m with ctbRvscntl := v }
  | .ctbAdjctl => { m with ctbAdjctl := v }
  | .ctbWpunlock => { m with ctbWpunlock := v }
  | .ctbMancal => { m with ctbMancal := v }
  | .ctbCalofs => { m with ctbCalofs := v }
  | .platCtrl => { m with platCtrl := v }

/-- The source of a volatile register. -/
def Sources.get (m : Sources) : VolatileReg → Source
  | .gcbStatus => m.gcbStatus
  | .ctbRvsreq => m.ctbRvsreq
  | .ctbSmpcmp => m.ctbSmpcmp
  | .ctbCalcode => m.ctbCalcode

/-- The source of a volatile register replaced. -/
def Sources.put (m : Sources) (r : VolatileReg) (x : Source) : Sources :=
  match r with
  | .gcbStatus => { m with gcbStatus := x }
  | .ctbRvsreq => { m with ctbRvsreq := x }
  | .ctbSmpcmp => { m with ctbSmpcmp := x }
  | .ctbCalcode => { m with ctbCalcode := x }

/-- The source after one read. -/
def Source.advance (x : Source) : Source := ⟨x.pending.tail, x.reads + 1⟩

/-- The value that read number `j` from now (0 is the next one) of volatile register `r` returns: a draw (R69),
either settled in the state or the free value (log 3). -/
def State.upcoming (s : State) (r : VolatileReg) (j : Nat) : Word :=
  match (s.sources.get r).pending[j]? with
  | some v => v
  | none => Config.volatileRead r ((s.sources.get r).reads + j)

/-- An event is appended to the trace (00_scope.md R18). -/
def State.logEvent (s : State) (e : BusEvent) : State := { s with trace := s.trace ++ [e] }

/-- A plain register of the environment gets a value. -/
def State.putPlain (s : State) (r : PlainReg) (v : Word) : State := { s with store := s.store.put r v }

/-- One read of a volatile register has been made. -/
def State.consume (s : State) (r : VolatileReg) : State :=
  { s with sources := s.sources.put r (s.sources.get r).advance }

/-! ### The access primitives of TWS -/

/-- `RegRead(r)` of a plain register (R66): its value, and the state after the read. -/
def readPlain (r : PlainReg) (s : State) : Word × State :=
  (s.store.get r, s.logEvent (.read (.plain r) (s.store.get r)))

/-- `RegRead(r)` of a volatile register (R66, R69): a draw, and the state after the read. -/
def readVolatile (r : VolatileReg) (s : State) : Word × State :=
  (s.upcoming r 0, (s.consume r).logEvent (.read (.volatile r) (s.upcoming r 0)))

/-- `RegWrite(r, v)` of a plain register (R67). -/
def writePlain (r : PlainReg) (v : Word) (s : State) : State :=
  (s.putPlain r v).logEvent (.write (.plain r) v)

/-- `RegWrite(r, v)` of a volatile register: an event; what it does there is the hardware's, and later reads are draws
(R49, R69, U17). -/
def writeVolatile (r : VolatileReg) (v : Word) (s : State) : State := s.logEvent (.write (.volatile r) v)

/-- `PlatWrite(v)` (R68): it always completes and is not followed by a poll. -/
def platWrite (v : Word) (s : State) : State := (s.putPlain .platCtrl v).logEvent (.plat v)

/-- The byte at address `a + k` of a 32-bit register at `a`, little-endian (R64). -/
def byteOf (v : Word) (k : Nat) : Byte := v.extractLsb' (8 * k) 8

/-! ### Procedures -/

/-- What a procedure raises (00_scope.md R16). -/
inductive Raise where
  /-- `raise IdleTimeout(k)`, with the step label `k` (R113, R115). -/
  | idleTimeout (k : Nat)
  | noStableWindow
  | illegalCommand
  | badOperand
  | disabled
  deriving DecidableEq, Repr

/-- How a procedure ends: with a value, or cut at a `raise`; the state holds what was written up to there (R17). -/
inductive Proc (α : Type) where
  | done (a : α) (s : State)
  | raised (x : Raise) (s : State)
  deriving DecidableEq, Repr

/-- One line of a procedure. -/
abbrev Action := State → Proc Unit

/-- The rest of a procedure runs only where nothing was raised (R17). -/
def Proc.andThen {α β : Type} (p : Proc α) (f : α → State → Proc β) : Proc β :=
  match p with
  | .done a s => f a s
  | .raised x s => .raised x s

/-- Lines executed from the first to the last, "in the exact order specified" (R17). -/
def runActions : List Action → Action
  | [], s => .done () s
  | a :: rest, s => (a s).andThen fun _ s' => runActions rest s'

/-- A line that only writes state or makes plain accesses. -/
def update (f : State → State) : Action := fun s => .done () (f s)

/-- A line under an `if`. -/
def onlyIf (test : State → Bool) (a : Action) : Action := fun s => if test s then a s else .done () s

/-- The poll of a protected write with `left` reads of `GCB_STATUS` still allowed (R110, R112). -/
def poll (k : Nat) : Nat → Action
  | 0, s => .raised (.idleTimeout k) s
  | left + 1, s =>
    if idle s.cfg (readVolatile .gcbStatus s).1 then .done () (readVolatile .gcbStatus s).2
    else poll k left (readVolatile .gcbStatus s).2

/-- `WriteProtected(r, v, k)` (R110): the write always happens, then the poll. -/
def writeProtected (r : PlainReg) (v : Word) (k : Nat) : Action := fun s =>
  poll k s.cfg.pollLimit (writePlain r v s)

/-- `RmwProtected(r, clr, set, k)` (45_hs400_sequencer.md R185). -/
def rmwProtected (r : PlainReg) (clr set : Word) (k : Nat) : Action := fun s =>
  writeProtected r (((readPlain r s).1 &&& ~~~ clr) ||| set) k (readPlain r s).2

/-! ### How a command word ends -/

/-- The common beginning (R215). -/
def State.begin (s : State) : State := { s with err := .ok, resultVal := 0, resultFstep := 0 }

/-- TAKING A FAILURE OUTCOME, the one operation for all of them: `result_val <- 0`, then the rule of the outcome
(R215 to R220, R223). No state is saved and nothing is vectored to (R227). -/
def takeRaise (x : Raise) (s : State) : State :=
  match x with
  | .idleTimeout k =>
    { s with resultVal := 0, err := .idleTimeout, resultFstep := BitVec.ofNat 8 k, stkTimeout := true }
  | .noStableWindow => { s with resultVal := 0, err := .noStableWindow }
  | .illegalCommand => { s with resultVal := 0, err := .illegalCmd, stkIllegal := true }
  | .badOperand => { s with resultVal := 0, err := .badOperand, stkIllegal := true }
  | .disabled => { s with resultVal := 0, err := .disabled }

/-- The common ending (R215): there is no return instruction, the next command word follows (R227). -/
def settle (p : Proc Unit) : State :=
  match p with
  | .done _ s => s
  | .raised x s => takeRaise x s

/-- A device whose configuration is not well formed gets no meaning (00_scope.md R13, U10). -/
def guarded (s : State) (o : Host.Outcome State Fault Refusal) : Host.Outcome State Fault Refusal :=
  if s.cfg.wf then o else .refused .illFormedConfig

/-- The frame every command word runs in (60_exceptions.md R215). -/
def runCommand (p : Action) (s : State) : Host.Outcome State Fault Refusal :=
  guarded s (.next (settle (p s.begin)))

/-! ### The window copy and the power-on reset -/

/-- The window copy emptied (R31). -/
def State.clearWindow (s : State) : State := { s with winStart := 0, winEnd := 0, winLen := 0, winValid := false }

/-- The power-on reset (70_reset_and_hazards.md R240, R241): every element of the state tuple to zero; neither the
configuration nor a target register is touched and no bus transaction is made. -/
def State.powerOn (s : State) : State :=
  { s with
    bitmap := 0, tapSet := 0, timing := .other, tuningActive := false, needsAdjust := false, mcalActive := false
    err := .ok, driftEv := .noError, stkTimeout := false, stkIllegal := false, resultVal := 0, resultFstep := 0
    winStart := 0, winEnd := 0, winLen := 0, winValid := false }

end Sys2Proof.Machine
end

