-- ==== Sys2Proof/Machine/Bitmap.lean ====
section
/-! DEFINITION. Family 1, the probe bitmap (42_probe_bitmap.md): TBEGIN, PROBE, LDBL, LDBH. None of them touches the
bus. -/

namespace Sys2Proof.Machine

open Sys2Proof

/-- TBEGIN's procedure (R141). -/
def tuningBegin (s : State) : State := { s.clearWindow with bitmap := 0, tuningActive := true }

/-- PROBE's procedure (R142). -/
def recordProbe (p : Bool) (idx : BitVec 8) : Action := fun s =>
  if idx.toNat < 2 * s.cfg.n then .done () { s with bitmap := setBit s.bitmap idx.toNat p }
  else .raised .badOperand s

/-- The sixteen iterations of LDBL (`base = 0`) or LDBH (`base = 16`) (R143, R144). -/
def loadHalf (base : Nat) (imm16 : BitVec 16) (s : State) : State :=
  { s with bitmap := loadBits s.cfg.n base imm16 16 s.bitmap }

/-- TBEGIN (R141). -/
def execTbegin (s : State) : Host.Outcome State Fault Refusal := runCommand (update tuningBegin) s

/-- PROBE idx, p (R142). -/
def execProbe (p : Bool) (idx : BitVec 8) (s : State) : Host.Outcome State Fault Refusal :=
  runCommand (recordProbe p idx) s

/-- LDBL imm16 (R143). -/
def execLdbl (imm16 : BitVec 16) (s : State) : Host.Outcome State Fault Refusal :=
  runCommand (update (loadHalf 0 imm16)) s

/-- LDBH imm16 (R144). -/
def execLdbh (imm16 : BitVec 16) (s : State) : Host.Outcome State Fault Refusal :=
  runCommand (update (loadHalf 16 imm16)) s

end Sys2Proof.Machine
end

