-- ==== Sys2Proof/Machine/Calibration.lean ====
section
/-! DEFINITION. Family 5, HS400 manual calibration (41_calibration.md): the procedures McalEnable and McalDisable, which
the HS400 sequences call too, and CLKUP, MCALEN, MCALDIS. -/

namespace Sys2Proof.Machine

open Sys2Proof

/-- CLKUP's procedure (R126). -/
def lookUp (imm8 : BitVec 8) : Action := fun s =>
  match s.cfg.calibTable with
  | none => .raised .disabled s
  | some t => .done () { s with resultVal := BitVec.ofNat 8 (lookup t s.cfg.portVariant (rawCode imm8)) }

/-- `manual_mode_bit | code` (R127 step 4). -/
def manualWord (code : Nat) : Word := manualModeMask ||| BitVec.ofNat 32 code

/-- The flags after McalEnable has completed (R127). -/
def calibrationOn (s : State) : State := { s with mcalActive := true, needsAdjust := false }

/-- The flags after McalDisable has completed (R129). -/
def calibrationOff (s : State) : State := { s with mcalActive := false, needsAdjust := false }

/-- Steps 2 to 5 of McalEnable (R127), with table `t`: the diagnostic port is read, the code looked up and written,
then the offset. The value is the one written to `CTB_MANCAL`. -/
def writeCode (t : CalibTable) (k0 : Nat) (s : State) : Proc Word :=
  let raw := readVolatile .ctbCalcode s
  let value := manualWord (lookup t s.cfg.portVariant (rawCode raw.1))
  (writeProtected .ctbMancal value (k0 + 1) raw.2).andThen fun _ s1 =>
    (writeProtected .ctbCalofs (BitVec.ofNat 32 s1.cfg.calibOffset) (k0 + 2) s1).andThen fun _ s2 =>
      .done value (calibrationOn s2)

/-- `McalEnable(k0)` (R127): a no-op without a calibration table. -/
def mcalEnable (k0 : Nat) (s : State) : Proc Word :=
  match s.cfg.calibTable with
  | none => .done 0 s
  | some t =>
    (writeProtected .ctbWpunlock s.cfg.wpUnlockCode k0 s).andThen fun _ s1 => writeCode t k0 s1

/-- `McalDisable(k0)` (R129). -/
def mcalDisable (k0 : Nat) : Action :=
  runActions [
    fun s => writeProtected .ctbWpunlock s.cfg.wpUnlockCode k0 s,
    writeProtected .ctbMancal 0 (k0 + 1),
    writeProtected .ctbCalofs 0 (k0 + 2),
    update calibrationOff]

/-- MCALEN's procedure (R128). -/
def mcalenProc : Action := fun s =>
  (mcalEnable 1 s).andThen fun wrote s1 => .done () { s1 with resultVal := wrote.setWidth 8 }

/-- CLKUP raw (R126). -/
def execClkup (imm8 : BitVec 8) (s : State) : Host.Outcome State Fault Refusal := runCommand (lookUp imm8) s

/-- MCALEN (R128). -/
def execMcalen (s : State) : Host.Outcome State Fault Refusal := runCommand mcalenProc s

/-- MCALDIS (R130). -/
def execMcaldis (s : State) : Host.Outcome State Fault Refusal := runCommand (mcalDisable 1) s

end Sys2Proof.Machine
end

