-- ==== Sys2Proof/Machine/Hs400.lean ====
section
/-! DEFINITION. Family 4, the HS400 sequencer (45_hs400_sequencer.md): HS4ENT, HS4EXT, HWRST. Each procedure is the list
of its lines; the numbers are the step labels of R189. -/

namespace Sys2Proof.Machine

open Sys2Proof

/-- `ClockPause(k)` (R185). -/
def clockPause (k : Nat) : Action := rmwProtected .gcbClkctl sclkenMask 0 k

/-- `ClockResume(k)` (R185). -/
def clockResume (k : Nat) : Action := rmwProtected .gcbClkctl 0 sclkenMask k

/-- The device has the 4-tap quirk (00_scope.md R6). -/
def fourTap (s : State) : Bool := s.cfg.fourTapHs400

/-- The device cannot auto-correct in HS400 (00_scope.md R7). -/
def noHs400Autocorr (s : State) : Bool := !s.cfg.capHs400Autocorr

/-- The calibrator's part of HS4ENT (R186), with labels 9 to 11: what McalEnable returns is not used. -/
def enterCalibration : Action := fun s => (mcalEnable 9 s).andThen fun _ s1 => .done () s1

/-- The lines of HS4ENT after its refusal (R186). -/
def hs4entLines : List Action := [
  update fun s => platWrite s.cfg.platHs400On s,
  clockPause 1,
  rmwProtected .gcbIfmode 0 hs400Mask 2,
  fun s => writeProtected .ctbTappos s.cfg.tapposHs400 3 s,
  onlyIf noHs400Autocorr (rmwProtected .ctbRvscntl rvsenMask 0 4),
  rmwProtected .ctbAdjctl 0 adjenMask 5,
  onlyIf fourTap fun s => rmwProtected .ctbTapcfg tapnumMask (tapWord (s.cfg.n / 2)) 6 s,
  onlyIf fourTap fun s => writeProtected .ctbTapset (tapWord (s.tapSet.toNat / 2)) 7 s,
  clockResume 8,
  update fun s => { s with needsAdjust := s.cfg.manualCalib },
  onlyIf State.needsAdjust enterCalibration]

/-- HS4ENT's procedure (R186). -/
def hs4entProc : Action := fun s => if s.cfg.hs400Disabled then .raised .disabled s else runActions hs4entLines s

/-- The lines of HS4EXT (R187). -/
def hs4extLines : List Action := [
  onlyIf State.mcalActive (mcalDisable 1),
  clockPause 4,
  onlyIf fourTap fun s => rmwProtected .ctbTapcfg tapnumMask (tapWord s.cfg.n) 5 s,
  onlyIf fourTap fun s => writeProtected .ctbTapset (tapWord s.tapSet.toNat) 6 s,
  rmwProtected .ctbAdjctl adjenMask 0 7,
  onlyIf noHs400Autocorr (rmwProtected .ctbRvscntl 0 rvsenMask 8),
  fun s => writeProtected .ctbTappos s.cfg.tapposDefault 9 s,
  rmwProtected .gcbIfmode hs400Mask 0 10,
  clockResume 11,
  update fun s => platWrite s.cfg.platHs400Off s]

/-- The internal state at its reset values, except `timing`, the sticky bits and the reporting state (R188). -/
def baseline (s : State) : State :=
  { s.clearWindow with
    tapSet := 0, bitmap := 0, tuningActive := false, needsAdjust := false, mcalActive := false
    driftEv := .noError }

/-- The lines of HWRST (R188). -/
def hwrstLines : List Action := [
  onlyIf State.mcalActive (mcalDisable 1),
  clockPause 4,
  onlyIf fourTap fun s => rmwProtected .ctbTapcfg tapnumMask (tapWord s.cfg.n) 5 s,
  writeProtected .ctbTapset 0 6,
  rmwProtected .ctbAdjctl adjenMask 0 7,
  rmwProtected .ctbRvscntl rvsenMask 0 8,
  fun s => writeProtected .ctbTappos s.cfg.tapposDefault 9 s,
  rmwProtected .gcbIfmode hs400Mask 0 10,
  clockResume 11,
  update baseline]

/-- HS4ENT (R186). -/
def execHs4ent (s : State) : Host.Outcome State Fault Refusal := runCommand hs4entProc s

/-- HS4EXT (R187). -/
def execHs4ext (s : State) : Host.Outcome State Fault Refusal := runCommand (runActions hs4extLines) s

/-- HWRST (R188). -/
def execHwrst (s : State) : Host.Outcome State Fault Refusal := runCommand (runActions hwrstLines) s

end Sys2Proof.Machine
end

