-- ==== Sys2Proof/Machine/Retune.lean ====
section
/-! DEFINITION. Family 3, the retune monitor (44_retune_monitor.md): SETTM and DRIFT. -/

namespace Sys2Proof.Machine

open Sys2Proof

/-- SETTM's procedure (R165). -/
def setTiming (imm8 : BitVec 8) : Action := fun s =>
  if imm8.toNat ≤ 3 then .done () { s with timing := timingOf imm8 } else .raised .badOperand s

/-- The auto-correction branch (R168): the event and the state after it. -/
def autoBranch (s : State) : DriftEvent × State :=
  let q := readVolatile .ctbRvsreq s
  if errorFlag q.1 then (.retuneRequired, writeVolatile .ctbRvsreq (q.1 &&& ~~~ rvserrMask) q.2)
  else (.noError, q.2)

/-- The manual branch's classification (R169). -/
def manualBranch (s : State) : DriftEvent × State :=
  let q := readVolatile .ctbRvsreq s
  if specialCase s then
    let v := readVolatile .ctbSmpcmp q.2
    (classifySpecial (commandUp v.1) (commandDown v.1), v.2)
  else (classifyNormal q.1, q.2)

/-- `tap_set` moved to full-resolution tap `t` and the tap register reprogrammed by a plain write (R171). -/
def moveTap (t : Nat) (s : State) : State :=
  writePlain .ctbTapset (tapWord (hwTapDrift s.cfg t)) { s with tapSet := BitVec.ofNat 8 t }

/-- `Adjust(ev)` (R171). -/
def adjust (ev : DriftEvent) (s : State) : State :=
  match ev with
  | .tapUp => moveTap (tapAbove s.cfg.n s.tapSet.toNat) s
  | .tapDown => moveTap (tapBelow s.cfg.n s.tapSet.toNat) s
  | .noError => s
  | .retuneRequired => s

/-- The manual branch with its adjustment (R169 to R172). -/
def manualCheck (s : State) : DriftEvent × State :=
  ((manualBranch s).1, adjust (manualBranch s).1 (manualBranch s).2)

/-- One drift check, gated (R166, R167, R172). -/
def driftCheck (s : State) : DriftEvent × State :=
  if driftGate s then
    let c := readPlain .ctbRvscntl s
    if autoCorrectOn c.1 then autoBranch c.2 else manualCheck c.2
  else (.noError, s)

/-- DRIFT's procedure (R172): the event and the tap after any adjustment are reported. -/
def driftProc (s : State) : State :=
  { (driftCheck s).2 with driftEv := (driftCheck s).1, resultVal := (driftCheck s).2.tapSet }

/-- SETTM mode (R165). -/
def execSettm (imm8 : BitVec 8) (s : State) : Host.Outcome State Fault Refusal := runCommand (setTiming imm8) s

/-- DRIFT (R172). -/
def execDrift (s : State) : Host.Outcome State Fault Refusal := runCommand (update driftProc) s

end Sys2Proof.Machine
end

