-- ==== Sys2Proof/Machine/Sequencer.lean ====
section
/-! DEFINITION. Family 0, control (40_register_sequencer.md): NOP. The primitives of the RegisterSequencer are in
Ops.lean. -/

namespace Sys2Proof.Machine

open Sys2Proof

/-- NOP (R116): nothing but the common ending. -/
def execNop (s : State) : Host.Outcome State Fault Refusal := runCommand (update id) s

/-- A word that is no legal command (30_encoding.md R98, 60_exceptions.md R218). -/
def execIllegal (s : State) : Host.Outcome State Fault Refusal := runCommand (fun t => .raised .illegalCommand t) s

end Sys2Proof.Machine
end

