-- ==== Sys2Proof/Machine/Window.lean ====
section
/-! DEFINITION. Family 2, the window selector (43_window_selector.md): the three pure functions Merge, LongestRun and
SelectTap, and TUNE. -/

namespace Sys2Proof.Machine

open Sys2Proof

/-- Iteration `i` of Merge (R150): unless both trials of tap `i` passed, both bits are cleared. -/
def mergeTap (n i : Nat) (b : Word) : Word :=
  if b.getLsbD i && b.getLsbD (i + n) then b else setBit (setBit b i false) (i + n) false

/-- The first `count` iterations of Merge (R150). -/
def mergeFirst (n : Nat) : Nat → Word → Word
  | 0, b => b
  | i + 1, b => mergeTap n i (mergeFirst n i b)

/-- `Merge(b)` (R150). -/
def merge (n : Nat) (b : Word) : Word := mergeFirst n n b

/-- The scan variables of LongestRun (R151, 10_state.md R32). -/
structure Scan where
  bestStart : Nat
  bestEnd : Nat
  bestLen : Nat
  curStart : Nat
  curLen : Nat
  deriving DecidableEq, Repr

/-- The current run, which ends at index `last`, is recorded if it is strictly longer than the best one (R151). -/
def Scan.record (a : Scan) (last : Nat) : Scan :=
  if a.curLen > a.bestLen then { a with bestStart := a.curStart, bestEnd := last, bestLen := a.curLen } else a

/-- Iteration `i` of the scan, for the value of bit `i` (R151). -/
def Scan.next (a : Scan) (i : Nat) (bit : Bool) : Scan :=
  if bit then { a with curStart := if a.curLen = 0 then i else a.curStart, curLen := a.curLen + 1 }
  else { a.record (i - 1) with curLen := 0 }

/-- The scan after the indices below `count` (R151). -/
def scanBits (m : Word) : Nat → Scan
  | 0 => ⟨0, 0, 0, 0, 0⟩
  | i + 1 => (scanBits m i).next i (m.getLsbD i)

/-- The TapWindow (10_state.md R31): where the selected run starts and ends, and its length. -/
structure TapWindow where
  start : Nat
  last : Nat
  len : Nat
  deriving DecidableEq, Repr

/-- `LongestRun(m)` (R151), the trailing run included. -/
def longestRun (n : Nat) (m : Word) : TapWindow :=
  let a := (scanBits m (2 * n)).record (2 * n - 1)
  ⟨a.bestStart, a.bestEnd, a.bestLen⟩

/-- `MIN_RUN` (00_scope.md R5). -/
def minRun : Nat := 3

/-- `SelectTap(best_start, best_end)` (R153). -/
def selectTap (n : Nat) (w : TapWindow) : Nat := (w.start + w.last) / 2 % n

/-- The window copy written (R31). -/
def State.recordWindow (s : State) (w : TapWindow) : State :=
  { s with
    winStart := BitVec.ofNat 8 w.start, winEnd := BitVec.ofNat 8 w.last, winLen := BitVec.ofNat 8 w.len
    winValid := true }

/-- Step 1 of TUNE, in place (R155). -/
def mergeBitmap (s : State) : State := { s with bitmap := merge s.cfg.n s.bitmap }

/-- Step 5 of TUNE (R155): the tap is programmed, then auto-correction is enabled; both writes are plain. -/
def programTap (t : Nat) (s : State) : State :=
  let s1 := writePlain .ctbTapset (tapWord (hwTapTune s.cfg s.timing t)) { s with tapSet := BitVec.ofNat 8 t }
  let v := readPlain .ctbRvscntl s1
  writePlain .ctbRvscntl (v.1 ||| rvsenMask) v.2

/-- What a successful TUNE leaves (R155). -/
def acceptWindow (w : TapWindow) (s : State) : State :=
  let t := selectTap s.cfg.n w
  { (programTap t s).recordWindow w with tuningActive := false, resultVal := BitVec.ofNat 8 t }

/-- What a TUNE without a stable window leaves (R155, R217). -/
def rejectWindow (s : State) : State := { s.clearWindow with tuningActive := false }

/-- Steps 2 to 5 of TUNE, on the merged bitmap (R155). -/
def selectWindow : Action := fun s =>
  let w := longestRun s.cfg.n s.bitmap
  if w.len < minRun then .raised .noStableWindow (rejectWindow s) else .done () (acceptWindow w s)

/-- TUNE's procedure (R155). -/
def tuneProc : Action := fun s => if s.cfg.tuningEnabled then selectWindow (mergeBitmap s) else .raised .disabled s

/-- TUNE (R155). -/
def execTune (s : State) : Host.Outcome State Fault Refusal := runCommand tuneProc s

end Sys2Proof.Machine
end

