-- ==== Sys2Proof/Machine/Dispatch.lean ====
section
/-! DEFINITION. The meaning of every command, one arm per constructor (30_encoding.md R97). -/

namespace Sys2Proof.Machine

open Sys2Proof

def exec (i : Instr) (s : State) : Host.Outcome State Fault Refusal :=
  match i with
  | .nop => Sys2Proof.Machine.execNop s
  | .tbegin => Sys2Proof.Machine.execTbegin s
  | .probe p idx => Sys2Proof.Machine.execProbe p idx s
  | .ldbl imm16 => Sys2Proof.Machine.execLdbl imm16 s
  | .ldbh imm16 => Sys2Proof.Machine.execLdbh imm16 s
  | .tune => Sys2Proof.Machine.execTune s
  | .settm imm8 => Sys2Proof.Machine.execSettm imm8 s
  | .drift => Sys2Proof.Machine.execDrift s
  | .hs4ent => Sys2Proof.Machine.execHs4ent s
  | .hs4ext => Sys2Proof.Machine.execHs4ext s
  | .hwrst => Sys2Proof.Machine.execHwrst s
  | .clkup imm8 => Sys2Proof.Machine.execClkup imm8 s
  | .mcalen => Sys2Proof.Machine.execMcalen s
  | .mcaldis => Sys2Proof.Machine.execMcaldis s

end Sys2Proof.Machine
end

