-- ==== Sys2Proof/Machine/HostPort.lean ====
section
/-! DEFINITION. What the outside world does to the machine (00_scope.md R19, 10_state.md R34, R35, 20_memory.md R61,
R74): a command word delivered to CMD, reads of the host port, accesses of the host and its collaborators to the target
registers between commands, and the reset input. -/

namespace Sys2Proof.Machine

open Sys2Proof

/-- Only aligned 32-bit accesses of the host port are defined (20_memory.md R61). -/
def accessDefined (offset width : Nat) : Bool := decide (width = 4) && decide (offset % 4 = 0)

/-- A command word written to CMD is decoded and executed to its end (10_state.md R35, 30_encoding.md R98). -/
def deliver (w : Word) (s : State) : Host.Outcome State Fault Refusal :=
  match decode w with
  | .ok i => exec i s
  | .error _ => execIllegal s

/-- The value a host-port register reads as (R34): CMD and the unmapped offsets read 0. -/
def portRead (offset : Nat) (s : State) : Word :=
  if offset = 0x04 then statusWord s
  else if offset = 0x08 then resultWord s
  else if offset = 0x0C then windowWord s
  else if offset = 0x10 then bitmapWord s
  else if offset = 0x14 then cfgWord s.cfg
  else 0

/-- A host-port write (R34): only CMD does anything. -/
def hostWrite (offset width : Nat) (value : Word) (s : State) : Host.Outcome State Fault Refusal :=
  if accessDefined offset width then
    if offset = 0x00 then deliver value s else .next s
  else .refused .hostAccess

/-- A host-port read (R34): no side effect on TWS. -/
def hostRead (offset width : Nat) (s : State) : Host.Outcome State Fault Refusal :=
  if accessDefined offset width then .next { s with readData := portRead offset s } else .refused .hostAccess

/-- A write of a target register by somebody else (20_memory.md R74): a plain register takes the value; what a volatile
one does with it is the hardware's, and later reads are draws (R69; log 8). TWS makes no event of its own. -/
def busWrite (r : Target) (v : Word) (s : State) : State :=
  match r with
  | .plain p => s.putPlain p v
  | .volatile _ => s

/-- A read of a target register by somebody else (20_memory.md R74; log 8). -/
def busRead (r : Target) (s : State) : State :=
  match r with
  | .plain p => { s with readData := s.store.get p }
  | .volatile v => { s.consume v with readData := s.upcoming v 0 }

/-- One move of the outside world. -/
def perform (m : Move) (s : State) : Host.Outcome State Fault Refusal :=
  match m with
  | .hostWrite offset width value => hostWrite offset width value s
  | .hostRead offset width => hostRead offset width s
  | .busWrite r v => .next (busWrite r v s)
  | .busRead r => .next (busRead r s)
  | .powerOn => .next s.powerOn

/-- The next move is taken out of the inbox and performed; with none waiting TWS is idle and changes nothing
(70_reset_and_hazards.md R257). -/
def takeMove (s : State) : Host.Outcome State Fault Refusal :=
  match s.inbox with
  | [] => .next s
  | m :: rest => perform m { s with inbox := rest }

/-- The host is about to write command word `w` to CMD. -/
def State.awaitCommand (s : State) (w : Word) : State := { s with inbox := .hostWrite 0x00 4 w :: s.inbox }

end Sys2Proof.Machine
end

