-- ==== Sys2Proof/Machine/Step.lean ====
section
/-! DEFINITION. One step of the machine: the next move of the outside world is taken (00_scope.md R19; log 4), one
command being one step (10_state.md R35). A device whose configuration is not well formed is refused (R13). -/

namespace Sys2Proof.Machine

open Sys2Proof

/-- One step. -/
def step (s : State) : Host.Outcome State Fault Refusal := guarded s (takeMove s)

/-- `s` with the command whose bits are `w` as the next word the host writes to CMD (log 4). -/
def State.withFetchWord (s : State) (nbits w : Nat) : State := s.awaitCommand (BitVec.ofNat 32 (w % 2 ^ nbits))

end Sys2Proof.Machine
end

