-- ==== Sys2Proof/Safety.lean ====
section
/-! DEFINITION. What counts as a safe state and a safe run, and the words the statements use: the invariants of
10_state.md R57, the accesses the host may make, runs of set bits (43_window_selector.md R151), polls, the part of a trace
that writes, and the protected writes of the commands with their labels and values (45_hs400_sequencer.md R186 to
R189). -/

namespace Sys2Proof.Machine

open Sys2Proof

/-! ### The invariants of R57 -/

/-- R57 (a): `tap_set < N`. -/
def State.TapInRange (s : State) : Prop := s.tapSet.toNat < s.cfg.n

/-- R57 (b): `bitmap[i] = 0` for every `i >= 2N`. -/
def State.BitmapInRange (s : State) : Prop := ∀ i, 2 * s.cfg.n ≤ i → s.bitmap.getLsbD i = false

/-- R57 (c), of a merged bitmap: bit `i` and bit `i + N` agree. -/
def Mirrored (n : Nat) (b : Word) : Prop := ∀ i, i < n → b.getLsbD i = b.getLsbD (i + n)

/-- R57 (d): a valid window copy is a window of at least three indices below `2N`. -/
def State.WindowSound (s : State) : Prop :=
  s.winValid = true →
    3 ≤ s.winLen.toNat ∧ s.winEnd.toNat = s.winStart.toNat + s.winLen.toNat - 1 ∧ s.winEnd.toNat < 2 * s.cfg.n

/-- The invariant of the machine: R57 (a), (b), (d) on a device whose configuration is well formed (R13). R57 (e)
holds by the type of `err`, R57 (c) and (f) are statements about steps. -/
structure State.Inv (s : State) : Prop where
  cfgWf : s.cfg.wf = true
  tapInRange : s.TapInRange
  bitmapInRange : s.BitmapInRange
  windowSound : s.WindowSound

/-! ### Safe runs -/

/-- A move with a defined effect: a host-port access is 32 bits wide and aligned (20_memory.md R61). -/
def Move.defined : Move → Bool
  | .hostWrite offset width _ => accessDefined offset width
  | .hostRead offset width => accessDefined offset width
  | .busWrite _ _ => true
  | .busRead _ => true
  | .powerOn => true

/-- A state from which every step answers a next state: a well-formed configuration, and only defined accesses to
come. -/
def State.Safe (s : State) : Prop := s.cfg.wf = true ∧ ∀ m ∈ s.inbox, m.defined = true

/-! ### Runs of set bits -/

/-- The indices `first` to `last`, all below `size`, are all set in `m`. -/
def RunAt (m : Word) (size first last : Nat) : Prop :=
  first ≤ last ∧ last < size ∧ ∀ i, first ≤ i → i ≤ last → m.getLsbD i = true

/-- A run that no set bit extends: the bits on both sides, where they exist, are 0 (R151). -/
def MaximalRun (m : Word) (size first last : Nat) : Prop :=
  RunAt m size first last ∧ (0 < first → m.getLsbD (first - 1) = false) ∧
    (last + 1 < size → m.getLsbD (last + 1) = false)

/-! ### Polls -/

/-- The next `count` reads of `GCB_STATUS` all read a value that is not idle. -/
abbrev State.BusyFor (s : State) (count : Nat) : Prop :=
  ∀ j, j < count → idle s.cfg (s.upcoming .gcbStatus j) = false

/-- The `count` reads of `GCB_STATUS` from draw number `start` on all read a value that is not idle. -/
abbrev State.BusyFrom (s : State) (start count : Nat) : Prop :=
  ∀ j, j < count → idle s.cfg (s.upcoming .gcbStatus (start + j)) = false

/-- Protected writes made one after the other, the first one polling from draw number `start` on, all settle: number `i`
of them (from 0) after `polls[i]` busy reads, fewer than `POLL_LIMIT`, and one idle read (R110). -/
def State.Settles (s : State) : Nat → List Nat → Prop
  | _, [] => True
  | start, m :: rest =>
    m < s.cfg.pollLimit ∧ s.BusyFrom start m ∧ idle s.cfg (s.upcoming .gcbStatus (start + m)) = true ∧
      s.Settles (start + m + 1) rest

/-- The reads of `GCB_STATUS` that protected writes make which settle after `polls` busy reads. -/
def drawsOf (polls : List Nat) : Nat := polls.sum + polls.length

/-- The source of a volatile register after `count` reads. -/
def Source.advanceBy (x : Source) (count : Nat) : Source := ⟨x.pending.drop count, x.reads + count⟩

/-- The events of the next `count` reads of `GCB_STATUS`. -/
def State.pollEvents (s : State) (count : Nat) : List BusEvent :=
  (List.range count).map fun j => .read (.volatile .gcbStatus) (s.upcoming .gcbStatus j)

/-- The events of the `count` reads of `GCB_STATUS` from draw number `start` on. -/
def State.pollEventsFrom (s : State) (start count : Nat) : List BusEvent :=
  (List.range count).map fun j => .read (.volatile .gcbStatus) (s.upcoming .gcbStatus (start + j))

/-! ### Traces -/

/-- An event that writes: `W(reg, value)` or `PW(value)`. -/
def BusEvent.isWrite : BusEvent → Bool
  | .read _ _ => false
  | .write _ _ => true
  | .plat _ => true

/-- The writes of a trace, oldest first. -/
def writesOf (trace : List BusEvent) : List BusEvent := trace.filter BusEvent.isWrite

/-- The last write of a trace. -/
def lastWrite (trace : List BusEvent) : Option BusEvent := (writesOf trace).getLast?

/-- The list of one element where a condition holds, else nothing: a conditional line of a procedure. -/
def listIf {α : Type} (b : Bool) (x : α) : List α := if b then [x] else []

/-! ### Which register a step label names -/

/-- The register the protected write with step label `k` writes in HS4ENT (45_hs400_sequencer.md R189). -/
def hs4entStep : Nat → Option PlainReg
  | 1 => some .gcbClkctl
  | 2 => some .gcbIfmode
  | 3 => some .ctbTappos
  | 4 => some .ctbRvscntl
  | 5 => some .ctbAdjctl
  | 6 => some .ctbTapcfg
  | 7 => some .ctbTapset
  | 8 => some .gcbClkctl
  | 9 => some .ctbWpunlock
  | 10 => some .ctbMancal
  | 11 => some .ctbCalofs
  | _ => none

/-- The register the protected write with step label `k` writes in HS4EXT and HWRST (R189). -/
def hs4extStep : Nat → Option PlainReg
  | 1 => some .ctbWpunlock
  | 2 => some .ctbMancal
  | 3 => some .ctbCalofs
  | 4 => some .gcbClkctl
  | 5 => some .ctbTapcfg
  | 6 => some .ctbTapset
  | 7 => some .ctbAdjctl
  | 8 => some .ctbRvscntl
  | 9 => some .ctbTappos
  | 10 => some .gcbIfmode
  | 11 => some .gcbClkctl
  | _ => none

/-- The register the protected write with step label `k` writes in MCALEN and MCALDIS (41_calibration.md R128,
R130). -/
def mcalStep : Nat → Option PlainReg
  | 1 => some .ctbWpunlock
  | 2 => some .ctbMancal
  | 3 => some .ctbCalofs
  | _ => none

/-- The register a step label of a command names, where the command has that label (R115). -/
def stepRegister : Instr → Nat → Option PlainReg
  | .hs4ent, k => hs4entStep k
  | .hs4ext, k => hs4extStep k
  | .hwrst, k => hs4extStep k
  | .mcalen, k => mcalStep k
  | .mcaldis, k => mcalStep k
  | .nop, _ | .tbegin, _ | .probe _ _, _ | .ldbl _, _ | .ldbh _, _ | .tune, _ | .settm _, _ | .drift, _
  | .clkup _, _ => none

/-! ### The protected writes of a command, with their values -/

/-- One protected write of a command (40_register_sequencer.md R110, R115): its label, the reads that come right before it
(R185, 41_calibration.md R127), the register, and the value written. -/
structure ProtectedStep where
  label : Nat
  lead : List BusEvent
  reg : PlainReg
  value : Word
  deriving DecidableEq, Repr

/-- `W(reg, value)` of a step. -/
def ProtectedStep.event (x : ProtectedStep) : BusEvent := .write (.plain x.reg) x.value

/-- A step that is a write alone. -/
def writeStep (k : Nat) (r : PlainReg) (v : Word) : ProtectedStep := ⟨k, [], r, v⟩

/-- A step that is a read-modify-write (R185): `old` is read, `v` is written. -/
def rmwStep (k : Nat) (r : PlainReg) (old v : Word) : ProtectedStep := ⟨k, [.read (.plain r) old], r, v⟩

/-- What McalEnable writes to `CTB_MANCAL`, where there is a table (41_calibration.md R127 steps 2 to 4): the manual-mode
bit and the entry of the selected variant at the low five bits of the next draw of `CTB_CALCODE`. -/
def State.manualCode (s : State) : Option Word :=
  s.cfg.calibTable.map fun tab => 0x80#32 ||| BitVec.ofNat 32
    ((if s.cfg.portVariant.val = 0 then tab.variant0 else tab.variant1).toList.getD
      (s.upcoming .ctbCalcode 0 &&& 0x1F#32).toNat 0)

/-- The protected writes of `McalEnable(k)` (R127). -/
def enableScript (k : Nat) (s : State) : List ProtectedStep :=
  match s.manualCode with
  | none => []
  | some code =>
    [writeStep k .ctbWpunlock s.cfg.wpUnlockCode,
      ⟨k + 1, [.read (.volatile .ctbCalcode) (s.upcoming .ctbCalcode 0)], .ctbMancal, code⟩,
      writeStep (k + 2) .ctbCalofs (BitVec.ofNat 32 s.cfg.calibOffset)]

/-- The protected writes of `McalDisable(k)` (R129). -/
def disableScript (k : Nat) (s : State) : List ProtectedStep :=
  [writeStep k .ctbWpunlock s.cfg.wpUnlockCode, writeStep (k + 1) .ctbMancal 0, writeStep (k + 2) .ctbCalofs 0]

/-- The steps `steps` where a condition holds, else none. -/
def stepsIf (b : Bool) (steps : List ProtectedStep) : List ProtectedStep := if b then steps else []

/-- `ClockPause(k)` (R185): `SCLKEN` to 0. -/
def pauseStep (k : Nat) (s : State) : ProtectedStep :=
  rmwStep k .gcbClkctl s.store.gcbClkctl (s.store.gcbClkctl &&& ~~~ 0x100#32)

/-- `ClockResume(k)` after a `ClockPause` (R185): `SCLKEN` to 1. -/
def resumeStep (k : Nat) (s : State) : ProtectedStep :=
  rmwStep k .gcbClkctl (s.store.gcbClkctl &&& ~~~ 0x100#32) (s.store.gcbClkctl ||| 0x100#32)

/-- `TAPNUM <- count` (R186 to R188). -/
def tapnumStep (k count : Nat) (s : State) : ProtectedStep :=
  rmwStep k .ctbTapcfg s.store.ctbTapcfg ((s.store.ctbTapcfg &&& ~~~ 0xFF#32) ||| BitVec.ofNat 32 count)

/-- The protected writes of HS4ENT (45_hs400_sequencer.md R186), those whose condition holds. -/
def hs4entScript (s : State) : List ProtectedStep :=
  [pauseStep 1 s, rmwStep 2 .gcbIfmode s.store.gcbIfmode (s.store.gcbIfmode ||| 0x1#32),
    writeStep 3 .ctbTappos s.cfg.tapposHs400] ++
  stepsIf (!s.cfg.capHs400Autocorr) [rmwStep 4 .ctbRvscntl s.store.ctbRvscntl (s.store.ctbRvscntl &&& ~~~ 0x1#32)] ++
  [rmwStep 5 .ctbAdjctl s.store.ctbAdjctl (s.store.ctbAdjctl ||| 0x3#32)] ++
  stepsIf s.cfg.fourTapHs400
    [tapnumStep 6 (s.cfg.n / 2) s, writeStep 7 .ctbTapset (BitVec.ofNat 32 (s.tapSet.toNat / 2))] ++
  [resumeStep 8 s] ++ stepsIf s.cfg.manualCalib (enableScript 9 s)

/-- The protected writes of HS4EXT (R187), those whose condition holds. -/
def hs4extScript (s : State) : List ProtectedStep :=
  stepsIf s.mcalActive (disableScript 1 s) ++ [pauseStep 4 s] ++
  stepsIf s.cfg.fourTapHs400
    [tapnumStep 5 s.cfg.n s, writeStep 6 .ctbTapset (BitVec.ofNat 32 s.tapSet.toNat)] ++
  [rmwStep 7 .ctbAdjctl s.store.ctbAdjctl (s.store.ctbAdjctl &&& ~~~ 0x3#32)] ++
  stepsIf (!s.cfg.capHs400Autocorr) [rmwStep 8 .ctbRvscntl s.store.ctbRvscntl (s.store.ctbRvscntl ||| 0x1#32)] ++
  [writeStep 9 .ctbTappos s.cfg.tapposDefault,
    rmwStep 10 .gcbIfmode s.store.gcbIfmode (s.store.gcbIfmode &&& ~~~ 0x1#32), resumeStep 11 s]

/-- The protected writes of HWRST (R188), those whose condition holds. -/
def hwrstScript (s : State) : List ProtectedStep :=
  stepsIf s.mcalActive (disableScript 1 s) ++ [pauseStep 4 s] ++
  stepsIf s.cfg.fourTapHs400 [tapnumStep 5 s.cfg.n s] ++
  [writeStep 6 .ctbTapset 0,
    rmwStep 7 .ctbAdjctl s.store.ctbAdjctl (s.store.ctbAdjctl &&& ~~~ 0x3#32),
    rmwStep 8 .ctbRvscntl s.store.ctbRvscntl (s.store.ctbRvscntl &&& ~~~ 0x1#32),
    writeStep 9 .ctbTappos s.cfg.tapposDefault,
    rmwStep 10 .gcbIfmode s.store.gcbIfmode (s.store.gcbIfmode &&& ~~~ 0x1#32), resumeStep 11 s]

/-- The protected writes of a command, in their order, from a state in which it starts (R114). -/
def scriptOf : Instr → State → List ProtectedStep
  | .hs4ent, s => hs4entScript s
  | .hs4ext, s => hs4extScript s
  | .hwrst, s => hwrstScript s
  | .mcalen, s => enableScript 1 s
  | .mcaldis, s => disableScript 1 s
  | .nop, _ | .tbegin, _ | .probe _ _, _ | .ldbl _, _ | .ldbh _, _ | .tune, _ | .settm _, _ | .drift, _
  | .clkup _, _ => []

/-- The event before the first protected write: HS4ENT's platform write (R186). -/
def openingOf : Instr → State → List BusEvent
  | .hs4ent, s => [.plat s.cfg.platHs400On]
  | .hs4ext, _ | .hwrst, _ | .mcalen, _ | .mcaldis, _ | .nop, _ | .tbegin, _ | .probe _ _, _ | .ldbl _, _
  | .ldbh _, _ | .tune, _ | .settm _, _ | .drift, _ | .clkup _, _ => []

/-- The plain store after what `openingOf` says. -/
def openedStore : Instr → State → Store
  | .hs4ent, s => { s.store with platCtrl := s.cfg.platHs400On }
  | .hs4ext, s | .hwrst, s | .mcalen, s | .mcaldis, s | .nop, s | .tbegin, s | .probe _ _, s | .ldbl _, s
  | .ldbh _, s | .tune, s | .settm _, s | .drift, s | .clkup _, s => s.store

/-- The plain store after the writes of some steps. -/
def stored (steps : List ProtectedStep) (m : Store) : Store := steps.foldl (fun m x => m.put x.reg x.value) m

/-- The events of steps that settle after `polls` busy reads, the first one polling from draw number `start` on. -/
def State.scriptEvents (s : State) : Nat → List ProtectedStep → List Nat → List BusEvent
  | start, x :: steps, m :: polls =>
    x.lead ++ x.event :: s.pollEventsFrom start (m + 1) ++ s.scriptEvents (start + m + 1) steps polls
  | _, _, _ => []

/-- The events of a command whose steps `done` settle after `polls` busy reads and whose step `last` does not settle. -/
def State.timeoutEvents (s : State) (done : List ProtectedStep) (polls : List Nat) (last : ProtectedStep) :
    List BusEvent :=
  s.scriptEvents 0 done polls ++ last.lead ++ last.event :: s.pollEventsFrom (drawsOf polls) s.cfg.pollLimit

/-! ### Which registers a command reaches -/

/-- The registers MCALEN and MCALDIS write (20_memory.md R77). -/
def mcalWrites : List Target := [.plain .ctbWpunlock, .plain .ctbMancal, .plain .ctbCalofs]

/-- The registers the HS400 sequences read and write back (R77). -/
def hs400Modified : List Target :=
  [.plain .gcbClkctl, .plain .gcbIfmode, .plain .ctbRvscntl, .plain .ctbAdjctl, .plain .ctbTapcfg]

/-- The registers the HS400 sequences only write (R77). -/
def hs400Written : List Target := [.plain .ctbTappos, .plain .ctbTapset]

/-- The target registers a command may read (20_memory.md R77). -/
def mayRead : Instr → List Target
  | .tune => [.plain .ctbRvscntl]
  | .drift => [.plain .ctbRvscntl, .volatile .ctbRvsreq, .volatile .ctbSmpcmp]
  | .mcalen => [.volatile .ctbCalcode, .volatile .gcbStatus]
  | .mcaldis => [.volatile .gcbStatus]
  | .hs4ent => .volatile .ctbCalcode :: .volatile .gcbStatus :: hs400Modified
  | .hs4ext => .volatile .gcbStatus :: hs400Modified
  | .hwrst => .volatile .gcbStatus :: hs400Modified
  | .nop | .tbegin | .probe _ _ | .ldbl _ | .ldbh _ | .settm _ | .clkup _ => []

/-- The target registers a command may write (20_memory.md R77). -/
def mayWrite : Instr → List Target
  | .tune => [.plain .ctbTapset, .plain .ctbRvscntl]
  | .drift => [.volatile .ctbRvsreq, .plain .ctbTapset]
  | .mcalen => mcalWrites
  | .mcaldis => mcalWrites
  | .hs4ent => .plain .platCtrl :: (mcalWrites ++ hs400Modified ++ hs400Written)
  | .hs4ext => .plain .platCtrl :: (mcalWrites ++ hs400Modified ++ hs400Written)
  | .hwrst => mcalWrites ++ hs400Modified ++ hs400Written
  | .nop | .tbegin | .probe _ _ | .ldbl _ | .ldbh _ | .settm _ | .clkup _ => []

/-- An event that is one of the accesses R77 gives the command. -/
def BusEvent.allowedFor (i : Instr) : BusEvent → Bool
  | .read r _ => decide (r ∈ mayRead i)
  | .write r _ => decide (r ∈ mayWrite i)
  | .plat _ => decide (.plain .platCtrl ∈ mayWrite i)

/-! ### Two configurations no command can tell apart -/

/-- The state of a device that differs in what no command's result depends on: `POLL_DELAY` (00_scope.md R9),
`dtranend_alt_bit`, which CFG alone shows (R6), and, by the model's choice (log 16), the value of the handle `PLAT`. -/
def State.withInert (s : State) (delay handle : Nat) (alt : Bool) : State :=
  { s with cfg := { s.cfg with pollDelay := delay, platHandle := handle, dtranendAltBit := alt } }

/-- An answer of a command with its next state changed in the same way. -/
def outcomeWithInert (o : Host.Outcome State Fault Refusal) (delay handle : Nat) (alt : Bool) :
    Host.Outcome State Fault Refusal :=
  match o with
  | .next s => .next (s.withInert delay handle alt)
  | .fault r => .fault r
  | .refused r => .refused r

end Sys2Proof.Machine
end

