-- ==== Sys2Proof/Laws/State.lean ====
section
/-! SUPPORT. One lemma per field for each named update of the state, true by rfl: what the update writes and that it
leaves every other field alone. -/

namespace Sys2Proof.Machine

open Sys2Proof

/-! ### State.logEvent -/

@[simp] theorem State.logEvent_bitmap (s : State) (e : BusEvent) :
    (s.logEvent e).bitmap = s.bitmap := rfl
@[simp] theorem State.logEvent_tapSet (s : State) (e : BusEvent) :
    (s.logEvent e).tapSet = s.tapSet := rfl
@[simp] theorem State.logEvent_timing (s : State) (e : BusEvent) :
    (s.logEvent e).timing = s.timing := rfl
@[simp] theorem State.logEvent_tuningActive (s : State) (e : BusEvent) :
    (s.logEvent e).tuningActive = s.tuningActive := rfl
@[simp] theorem State.logEvent_needsAdjust (s : State) (e : BusEvent) :
    (s.logEvent e).needsAdjust = s.needsAdjust := rfl
@[simp] theorem State.logEvent_mcalActive (s : State) (e : BusEvent) :
    (s.logEvent e).mcalActive = s.mcalActive := rfl
@[simp] theorem State.logEvent_err (s : State) (e : BusEvent) :
    (s.logEvent e).err = s.err := rfl
@[simp] theorem State.logEvent_driftEv (s : State) (e : BusEvent) :
    (s.logEvent e).driftEv = s.driftEv := rfl
@[simp] theorem State.logEvent_stkTimeout (s : State) (e : BusEvent) :
    (s.logEvent e).stkTimeout = s.stkTimeout := rfl
@[simp] theorem State.logEvent_stkIllegal (s : State) (e : BusEvent) :
    (s.logEvent e).stkIllegal = s.stkIllegal := rfl
@[simp] theorem State.logEvent_resultVal (s : State) (e : BusEvent) :
    (s.logEvent e).resultVal = s.resultVal := rfl
@[simp] theorem State.logEvent_resultFstep (s : State) (e : BusEvent) :
    (s.logEvent e).resultFstep = s.resultFstep := rfl
@[simp] theorem State.logEvent_winStart (s : State) (e : BusEvent) :
    (s.logEvent e).winStart = s.winStart := rfl
@[simp] theorem State.logEvent_winEnd (s : State) (e : BusEvent) :
    (s.logEvent e).winEnd = s.winEnd := rfl
@[simp] theorem State.logEvent_winLen (s : State) (e : BusEvent) :
    (s.logEvent e).winLen = s.winLen := rfl
@[simp] theorem State.logEvent_winValid (s : State) (e : BusEvent) :
    (s.logEvent e).winValid = s.winValid := rfl
@[simp] theorem State.logEvent_cfg (s : State) (e : BusEvent) :
    (s.logEvent e).cfg = s.cfg := rfl
@[simp] theorem State.logEvent_store (s : State) (e : BusEvent) :
    (s.logEvent e).store = s.store := rfl
@[simp] theorem State.logEvent_sources (s : State) (e : BusEvent) :
    (s.logEvent e).sources = s.sources := rfl
@[simp] theorem State.logEvent_trace (s : State) (e : BusEvent) :
    (s.logEvent e).trace = s.trace ++ [e] := rfl
@[simp] theorem State.logEvent_inbox (s : State) (e : BusEvent) :
    (s.logEvent e).inbox = s.inbox := rfl
@[simp] theorem State.logEvent_readData (s : State) (e : BusEvent) :
    (s.logEvent e).readData = s.readData := rfl

/-! ### State.putPlain -/

@[simp] theorem State.putPlain_bitmap (s : State) (r : PlainReg) (v : Word) :
    (s.putPlain r v).bitmap = s.bitmap := rfl
@[simp] theorem State.putPlain_tapSet (s : State) (r : PlainReg) (v : Word) :
    (s.putPlain r v).tapSet = s.tapSet := rfl
@[simp] theorem State.putPlain_timing (s : State) (r : PlainReg) (v : Word) :
    (s.putPlain r v).timing = s.timing := rfl
@[simp] theorem State.putPlain_tuningActive (s : State) (r : PlainReg) (v : Word) :
    (s.putPlain r v).tuningActive = s.tuningActive := rfl
@[simp] theorem State.putPlain_needsAdjust (s : State) (r : PlainReg) (v : Word) :
    (s.putPlain r v).needsAdjust = s.needsAdjust := rfl
@[simp] theorem State.putPlain_mcalActive (s : State) (r : PlainReg) (v : Word) :
    (s.putPlain r v).mcalActive = s.mcalActive := rfl
@[simp] theorem State.putPlain_err (s : State) (r : PlainReg) (v : Word) :
    (s.putPlain r v).err = s.err := rfl
@[simp] theorem State.putPlain_driftEv (s : State) (r : PlainReg) (v : Word) :
    (s.putPlain r v).driftEv = s.driftEv := rfl
@[simp] theorem State.putPlain_stkTimeout (s : State) (r : PlainReg) (v : Word) :
    (s.putPlain r v).stkTimeout = s.stkTimeout := rfl
@[simp] theorem State.putPlain_stkIllegal (s : State) (r : PlainReg) (v : Word) :
    (s.putPlain r v).stkIllegal = s.stkIllegal := rfl
@[simp] theorem State.putPlain_resultVal (s : State) (r : PlainReg) (v : Word) :
    (s.putPlain r v).resultVal = s.resultVal := rfl
@[simp] theorem State.putPlain_resultFstep (s : State) (r : PlainReg) (v : Word) :
    (s.putPlain r v).resultFstep = s.resultFstep := rfl
@[simp] theorem State.putPlain_winStart (s : State) (r : PlainReg) (v : Word) :
    (s.putPlain r v).winStart = s.winStart := rfl
@[simp] theorem State.putPlain_winEnd (s : State) (r : PlainReg) (v : Word) :
    (s.putPlain r v).winEnd = s.winEnd := rfl
@[simp] theorem State.putPlain_winLen (s : State) (r : PlainReg) (v : Word) :
    (s.putPlain r v).winLen = s.winLen := rfl
@[simp] theorem State.putPlain_winValid (s : State) (r : PlainReg) (v : Word) :
    (s.putPlain r v).winValid = s.winValid := rfl
@[simp] theorem State.putPlain_cfg (s : State) (r : PlainReg) (v : Word) :
    (s.putPlain r v).cfg = s.cfg := rfl
@[simp] theorem State.putPlain_store (s : State) (r : PlainReg) (v : Word) :
    (s.putPlain r v).store = s.store.put r v := rfl
@[simp] theorem State.putPlain_sources (s : State) (r : PlainReg) (v : Word) :
    (s.putPlain r v).sources = s.sources := rfl
@[simp] theorem State.putPlain_trace (s : State) (r : PlainReg) (v : Word) :
    (s.putPlain r v).trace = s.trace := rfl
@[simp] theorem State.putPlain_inbox (s : State) (r : PlainReg) (v : Word) :
    (s.putPlain r v).inbox = s.inbox := rfl
@[simp] theorem State.putPlain_readData (s : State) (r : PlainReg) (v : Word) :
    (s.putPlain r v).readData = s.readData := rfl

/-! ### State.consume -/

@[simp] theorem State.consume_bitmap (s : State) (r : VolatileReg) :
    (s.consume r).bitmap = s.bitmap := rfl
@[simp] theorem State.consume_tapSet (s : State) (r : VolatileReg) :
    (s.consume r).tapSet = s.tapSet := rfl
@[simp] theorem State.consume_timing (s : State) (r : VolatileReg) :
    (s.consume r).timing = s.timing := rfl
@[simp] theorem State.consume_tuningActive (s : State) (r : VolatileReg) :
    (s.consume r).tuningActive = s.tuningActive := rfl
@[simp] theorem State.consume_needsAdjust (s : State) (r : VolatileReg) :
    (s.consume r).needsAdjust = s.needsAdjust := rfl
@[simp] theorem State.consume_mcalActive (s : State) (r : VolatileReg) :
    (s.consume r).mcalActive = s.mcalActive := rfl
@[simp] theorem State.consume_err (s : State) (r : VolatileReg) :
    (s.consume r).err = s.err := rfl
@[simp] theorem State.consume_driftEv (s : State) (r : VolatileReg) :
    (s.consume r).driftEv = s.driftEv := rfl
@[simp] theorem State.consume_stkTimeout (s : State) (r : VolatileReg) :
    (s.consume r).stkTimeout = s.stkTimeout := rfl
@[simp] theorem State.consume_stkIllegal (s : State) (r : VolatileReg) :
    (s.consume r).stkIllegal = s.stkIllegal := rfl
@[simp] theorem State.consume_resultVal (s : State) (r : VolatileReg) :
    (s.consume r).resultVal = s.resultVal := rfl
@[simp] theorem State.consume_resultFstep (s : State) (r : VolatileReg) :
    (s.consume r).resultFstep = s.resultFstep := rfl
@[simp] theorem State.consume_winStart (s : State) (r : VolatileReg) :
    (s.consume r).winStart = s.winStart := rfl
@[simp] theorem State.consume_winEnd (s : State) (r : VolatileReg) :
    (s.consume r).winEnd = s.winEnd := rfl
@[simp] theorem State.consume_winLen (s : State) (r : VolatileReg) :
    (s.consume r).winLen = s.winLen := rfl
@[simp] theorem State.consume_winValid (s : State) (r : VolatileReg) :
    (s.consume r).winValid = s.winValid := rfl
@[simp] theorem State.consume_cfg (s : State) (r : VolatileReg) :
    (s.consume r).cfg = s.cfg := rfl
@[simp] theorem State.consume_store (s : State) (r : VolatileReg) :
    (s.consume r).store = s.store := rfl
@[simp] theorem State.consume_sources (s : State) (r : VolatileReg) :
    (s.consume r).sources = s.sources.put r (s.sources.get r).advance := rfl
@[simp] theorem State.consume_trace (s : State) (r : VolatileReg) :
    (s.consume r).trace = s.trace := rfl
@[simp] theorem State.consume_inbox (s : State) (r : VolatileReg) :
    (s.consume r).inbox = s.inbox := rfl
@[simp] theorem State.consume_readData (s : State) (r : VolatileReg) :
    (s.consume r).readData = s.readData := rfl

/-! ### State.begin -/

@[simp] theorem State.begin_bitmap (s : State) :
    (s.begin).bitmap = s.bitmap := rfl
@[simp] theorem State.begin_tapSet (s : State) :
    (s.begin).tapSet = s.tapSet := rfl
@[simp] theorem State.begin_timing (s : State) :
    (s.begin).timing = s.timing := rfl
@[simp] theorem State.begin_tuningActive (s : State) :
    (s.begin).tuningActive = s.tuningActive := rfl
@[simp] theorem State.begin_needsAdjust (s : State) :
    (s.begin).needsAdjust = s.needsAdjust := rfl
@[simp] theorem State.begin_mcalActive (s : State) :
    (s.begin).mcalActive = s.mcalActive := rfl
@[simp] theorem State.begin_err (s : State) :
    (s.begin).err = .ok := rfl
@[simp] theorem State.begin_driftEv (s : State) :
    (s.begin).driftEv = s.driftEv := rfl
@[simp] theorem State.begin_stkTimeout (s : State) :
    (s.begin).stkTimeout = s.stkTimeout := rfl
@[simp] theorem State.begin_stkIllegal (s : State) :
    (s.begin).stkIllegal = s.stkIllegal := rfl
@[simp] theorem State.begin_resultVal (s : State) :
    (s.begin).resultVal = 0 := rfl
@[simp] theorem State.begin_resultFstep (s : State) :
    (s.begin).resultFstep = 0 := rfl
@[simp] theorem State.begin_winStart (s : State) :
    (s.begin).winStart = s.winStart := rfl
@[simp] theorem State.begin_winEnd (s : State) :
    (s.begin).winEnd = s.winEnd := rfl
@[simp] theorem State.begin_winLen (s : State) :
    (s.begin).winLen = s.winLen := rfl
@[simp] theorem State.begin_winValid (s : State) :
    (s.begin).winValid = s.winValid := rfl
@[simp] theorem State.begin_cfg (s : State) :
    (s.begin).cfg = s.cfg := rfl
@[simp] theorem State.begin_store (s : State) :
    (s.begin).store = s.store := rfl
@[simp] theorem State.begin_sources (s : State) :
    (s.begin).sources = s.sources := rfl
@[simp] theorem State.begin_trace (s : State) :
    (s.begin).trace = s.trace := rfl
@[simp] theorem State.begin_inbox (s : State) :
    (s.begin).inbox = s.inbox := rfl
@[simp] theorem State.begin_readData (s : State) :
    (s.begin).readData = s.readData := rfl

/-! ### State.clearWindow -/

@[simp] theorem State.clearWindow_bitmap (s : State) :
    (s.clearWindow).bitmap = s.bitmap := rfl
@[simp] theorem State.clearWindow_tapSet (s : State) :
    (s.clearWindow).tapSet = s.tapSet := rfl
@[simp] theorem State.clearWindow_timing (s : State) :
    (s.clearWindow).timing = s.timing := rfl
@[simp] theorem State.clearWindow_tuningActive (s : State) :
    (s.clearWindow).tuningActive = s.tuningActive := rfl
@[simp] theorem State.clearWindow_needsAdjust (s : State) :
    (s.clearWindow).needsAdjust = s.needsAdjust := rfl
@[simp] theorem State.clearWindow_mcalActive (s : State) :
    (s.clearWindow).mcalActive = s.mcalActive := rfl
@[simp] theorem State.clearWindow_err (s : State) :
    (s.clearWindow).err = s.err := rfl
@[simp] theorem State.clearWindow_driftEv (s : State) :
    (s.clearWindow).driftEv = s.driftEv := rfl
@[simp] theorem State.clearWindow_stkTimeout (s : State) :
    (s.clearWindow).stkTimeout = s.stkTimeout := rfl
@[simp] theorem State.clearWindow_stkIllegal (s : State) :
    (s.clearWindow).stkIllegal = s.stkIllegal := rfl
@[simp] theorem State.clearWindow_resultVal (s : State) :
    (s.clearWindow).resultVal = s.resultVal := rfl
@[simp] theorem State.clearWindow_resultFstep (s : State) :
    (s.clearWindow).resultFstep = s.resultFstep := rfl
@[simp] theorem State.clearWindow_winStart (s : State) :
    (s.clearWindow).winStart = 0 := rfl
@[simp] theorem State.clearWindow_winEnd (s : State) :
    (s.clearWindow).winEnd = 0 := rfl
@[simp] theorem State.clearWindow_winLen (s : State) :
    (s.clearWindow).winLen = 0 := rfl
@[simp] theorem State.clearWindow_winValid (s : State) :
    (s.clearWindow).winValid = false := rfl
@[simp] theorem State.clearWindow_cfg (s : State) :
    (s.clearWindow).cfg = s.cfg := rfl
@[simp] theorem State.clearWindow_store (s : State) :
    (s.clearWindow).store = s.store := rfl
@[simp] theorem State.clearWindow_sources (s : State) :
    (s.clearWindow).sources = s.sources := rfl
@[simp] theorem State.clearWindow_trace (s : State) :
    (s.clearWindow).trace = s.trace := rfl
@[simp] theorem State.clearWindow_inbox (s : State) :
    (s.clearWindow).inbox = s.inbox := rfl
@[simp] theorem State.clearWindow_readData (s : State) :
    (s.clearWindow).readData = s.readData := rfl

/-! ### State.recordWindow -/

@[simp] theorem State.recordWindow_bitmap (s : State) (w : TapWindow) :
    (s.recordWindow w).bitmap = s.bitmap := rfl
@[simp] theorem State.recordWindow_tapSet (s : State) (w : TapWindow) :
    (s.recordWindow w).tapSet = s.tapSet := rfl
@[simp] theorem State.recordWindow_timing (s : State) (w : TapWindow) :
    (s.recordWindow w).timing = s.timing := rfl
@[simp] theorem State.recordWindow_tuningActive (s : State) (w : TapWindow) :
    (s.recordWindow w).tuningActive = s.tuningActive := rfl
@[simp] theorem State.recordWindow_needsAdjust (s : State) (w : TapWindow) :
    (s.recordWindow w).needsAdjust = s.needsAdjust := rfl
@[simp] theorem State.recordWindow_mcalActive (s : State) (w : TapWindow) :
    (s.recordWindow w).mcalActive = s.mcalActive := rfl
@[simp] theorem State.recordWindow_err (s : State) (w : TapWindow) :
    (s.recordWindow w).err = s.err := rfl
@[simp] theorem State.recordWindow_driftEv (s : State) (w : TapWindow) :
    (s.recordWindow w).driftEv = s.driftEv := rfl
@[simp] theorem State.recordWindow_stkTimeout (s : State) (w : TapWindow) :
    (s.recordWindow w).stkTimeout = s.stkTimeout := rfl
@[simp] theorem State.recordWindow_stkIllegal (s : State) (w : TapWindow) :
    (s.recordWindow w).stkIllegal = s.stkIllegal := rfl
@[simp] theorem State.recordWindow_resultVal (s : State) (w : TapWindow) :
    (s.recordWindow w).resultVal = s.resultVal := rfl
@[simp] theorem State.recordWindow_resultFstep (s : State) (w : TapWindow) :
    (s.recordWindow w).resultFstep = s.resultFstep := rfl
@[simp] theorem State.recordWindow_winStart (s : State) (w : TapWindow) :
    (s.recordWindow w).winStart = BitVec.ofNat 8 w.start := rfl
@[simp] theorem State.recordWindow_winEnd (s : State) (w : TapWindow) :
    (s.recordWindow w).winEnd = BitVec.ofNat 8 w.last := rfl
@[simp] theorem State.recordWindow_winLen (s : State) (w : TapWindow) :
    (s.recordWindow w).winLen = BitVec.ofNat 8 w.len := rfl
@[simp] theorem State.recordWindow_winValid (s : State) (w : TapWindow) :
    (s.recordWindow w).winValid = true := rfl
@[simp] theorem State.recordWindow_cfg (s : State) (w : TapWindow) :
    (s.recordWindow w).cfg = s.cfg := rfl
@[simp] theorem State.recordWindow_store (s : State) (w : TapWindow) :
    (s.recordWindow w).store = s.store := rfl
@[simp] theorem State.recordWindow_sources (s : State) (w : TapWindow) :
    (s.recordWindow w).sources = s.sources := rfl
@[simp] theorem State.recordWindow_trace (s : State) (w : TapWindow) :
    (s.recordWindow w).trace = s.trace := rfl
@[simp] theorem State.recordWindow_inbox (s : State) (w : TapWindow) :
    (s.recordWindow w).inbox = s.inbox := rfl
@[simp] theorem State.recordWindow_readData (s : State) (w : TapWindow) :
    (s.recordWindow w).readData = s.readData := rfl

/-! ### State.powerOn -/

@[simp] theorem State.powerOn_bitmap (s : State) :
    (s.powerOn).bitmap = 0 := rfl
@[simp] theorem State.powerOn_tapSet (s : State) :
    (s.powerOn).tapSet = 0 := rfl
@[simp] theorem State.powerOn_timing (s : State) :
    (s.powerOn).timing = .other := rfl
@[simp] theorem State.powerOn_tuningActive (s : State) :
    (s.powerOn).tuningActive = false := rfl
@[simp] theorem State.powerOn_needsAdjust (s : State) :
    (s.powerOn).needsAdjust = false := rfl
@[simp] theorem State.powerOn_mcalActive (s : State) :
    (s.powerOn).mcalActive = false := rfl
@[simp] theorem State.powerOn_err (s : State) :
    (s.powerOn).err = .ok := rfl
@[simp] theorem State.powerOn_driftEv (s : State) :
    (s.powerOn).driftEv = .noError := rfl
@[simp] theorem State.powerOn_stkTimeout (s : State) :
    (s.powerOn).stkTimeout = false := rfl
@[simp] theorem State.powerOn_stkIllegal (s : State) :
    (s.powerOn).stkIllegal = false := rfl
@[simp] theorem State.powerOn_resultVal (s : State) :
    (s.powerOn).resultVal = 0 := rfl
@[simp] theorem State.powerOn_resultFstep (s : State) :
    (s.powerOn).resultFstep = 0 := rfl
@[simp] theorem State.powerOn_winStart (s : State) :
    (s.powerOn).winStart = 0 := rfl
@[simp] theorem State.powerOn_winEnd (s : State) :
    (s.powerOn).winEnd = 0 := rfl
@[simp] theorem State.powerOn_winLen (s : State) :
    (s.powerOn).winLen = 0 := rfl
@[simp] theorem State.powerOn_winValid (s : State) :
    (s.powerOn).winValid = false := rfl
@[simp] theorem State.powerOn_cfg (s : State) :
    (s.powerOn).cfg = s.cfg := rfl
@[simp] theorem State.powerOn_store (s : State) :
    (s.powerOn).store = s.store := rfl
@[simp] theorem State.powerOn_sources (s : State) :
    (s.powerOn).sources = s.sources := rfl
@[simp] theorem State.powerOn_trace (s : State) :
    (s.powerOn).trace = s.trace := rfl
@[simp] theorem State.powerOn_inbox (s : State) :
    (s.powerOn).inbox = s.inbox := rfl
@[simp] theorem State.powerOn_readData (s : State) :
    (s.powerOn).readData = s.readData := rfl

/-! ### State.awaitCommand -/

@[simp] theorem State.awaitCommand_bitmap (s : State) (w : Word) :
    (s.awaitCommand w).bitmap = s.bitmap := rfl
@[simp] theorem State.awaitCommand_tapSet (s : State) (w : Word) :
    (s.awaitCommand w).tapSet = s.tapSet := rfl
@[simp] theorem State.awaitCommand_timing (s : State) (w : Word) :
    (s.awaitCommand w).timing = s.timing := rfl
@[simp] theorem State.awaitCommand_tuningActive (s : State) (w : Word) :
    (s.awaitCommand w).tuningActive = s.tuningActive := rfl
@[simp] theorem State.awaitCommand_needsAdjust (s : State) (w : Word) :
    (s.awaitCommand w).needsAdjust = s.needsAdjust := rfl
@[simp] theorem State.awaitCommand_mcalActive (s : State) (w : Word) :
    (s.awaitCommand w).mcalActive = s.mcalActive := rfl
@[simp] theorem State.awaitCommand_err (s : State) (w : Word) :
    (s.awaitCommand w).err = s.err := rfl
@[simp] theorem State.awaitCommand_driftEv (s : State) (w : Word) :
    (s.awaitCommand w).driftEv = s.driftEv := rfl
@[simp] theorem State.awaitCommand_stkTimeout (s : State) (w : Word) :
    (s.awaitCommand w).stkTimeout = s.stkTimeout := rfl
@[simp] theorem State.awaitCommand_stkIllegal (s : State) (w : Word) :
    (s.awaitCommand w).stkIllegal = s.stkIllegal := rfl
@[simp] theorem State.awaitCommand_resultVal (s : State) (w : Word) :
    (s.awaitCommand w).resultVal = s.resultVal := rfl
@[simp] theorem State.awaitCommand_resultFstep (s : State) (w : Word) :
    (s.awaitCommand w).resultFstep = s.resultFstep := rfl
@[simp] theorem State.awaitCommand_winStart (s : State) (w : Word) :
    (s.awaitCommand w).winStart = s.winStart := rfl
@[simp] theorem State.awaitCommand_winEnd (s : State) (w : Word) :
    (s.awaitCommand w).winEnd = s.winEnd := rfl
@[simp] theorem State.awaitCommand_winLen (s : State) (w : Word) :
    (s.awaitCommand w).winLen = s.winLen := rfl
@[simp] theorem State.awaitCommand_winValid (s : State) (w : Word) :
    (s.awaitCommand w).winValid = s.winValid := rfl
@[simp] theorem State.awaitCommand_cfg (s : State) (w : Word) :
    (s.awaitCommand w).cfg = s.cfg := rfl
@[simp] theorem State.awaitCommand_store (s : State) (w : Word) :
    (s.awaitCommand w).store = s.store := rfl
@[simp] theorem State.awaitCommand_sources (s : State) (w : Word) :
    (s.awaitCommand w).sources = s.sources := rfl
@[simp] theorem State.awaitCommand_trace (s : State) (w : Word) :
    (s.awaitCommand w).trace = s.trace := rfl
@[simp] theorem State.awaitCommand_inbox (s : State) (w : Word) :
    (s.awaitCommand w).inbox = .hostWrite 0x00 4 w :: s.inbox := rfl
@[simp] theorem State.awaitCommand_readData (s : State) (w : Word) :
    (s.awaitCommand w).readData = s.readData := rfl

/-! ### readPlain -/

@[simp] theorem readPlain_bitmap (r : PlainReg) (s : State) :
    (readPlain r s).2.bitmap = s.bitmap := rfl
@[simp] theorem readPlain_tapSet (r : PlainReg) (s : State) :
    (readPlain r s).2.tapSet = s.tapSet := rfl
@[simp] theorem readPlain_timing (r : PlainReg) (s : State) :
    (readPlain r s).2.timing = s.timing := rfl
@[simp] theorem readPlain_tuningActive (r : PlainReg) (s : State) :
    (readPlain r s).2.tuningActive = s.tuningActive := rfl
@[simp] theorem readPlain_needsAdjust (r : PlainReg) (s : State) :
    (readPlain r s).2.needsAdjust = s.needsAdjust := rfl
@[simp] theorem readPlain_mcalActive (r : PlainReg) (s : State) :
    (readPlain r s).2.mcalActive = s.mcalActive := rfl
@[simp] theorem readPlain_err (r : PlainReg) (s : State) :
    (readPlain r s).2.err = s.err := rfl
@[simp] theorem readPlain_driftEv (r : PlainReg) (s : State) :
    (readPlain r s).2.driftEv = s.driftEv := rfl
@[simp] theorem readPlain_stkTimeout (r : PlainReg) (s : State) :
    (readPlain r s).2.stkTimeout = s.stkTimeout := rfl
@[simp] theorem readPlain_stkIllegal (r : PlainReg) (s : State) :
    (readPlain r s).2.stkIllegal = s.stkIllegal := rfl
@[simp] theorem readPlain_resultVal (r : PlainReg) (s : State) :
    (readPlain r s).2.resultVal = s.resultVal := rfl
@[simp] theorem readPlain_resultFstep (r : PlainReg) (s : State) :
    (readPlain r s).2.resultFstep = s.resultFstep := rfl
@[simp] theorem readPlain_winStart (r : PlainReg) (s : State) :
    (readPlain r s).2.winStart = s.winStart := rfl
@[simp] theorem readPlain_winEnd (r : PlainReg) (s : State) :
    (readPlain r s).2.winEnd = s.winEnd := rfl
@[simp] theorem readPlain_winLen (r : PlainReg) (s : State) :
    (readPlain r s).2.winLen = s.winLen := rfl
@[simp] theorem readPlain_winValid (r : PlainReg) (s : State) :
    (readPlain r s).2.winValid = s.winValid := rfl
@[simp] theorem readPlain_cfg (r : PlainReg) (s : State) :
    (readPlain r s).2.cfg = s.cfg := rfl
@[simp] theorem readPlain_store (r : PlainReg) (s : State) :
    (readPlain r s).2.store = s.store := rfl
@[simp] theorem readPlain_sources (r : PlainReg) (s : State) :
    (readPlain r s).2.sources = s.sources := rfl
@[simp] theorem readPlain_trace (r : PlainReg) (s : State) :
    (readPlain r s).2.trace = s.trace ++ [.read (.plain r) (s.store.get r)] := rfl
@[simp] theorem readPlain_inbox (r : PlainReg) (s : State) :
    (readPlain r s).2.inbox = s.inbox := rfl
@[simp] theorem readPlain_readData (r : PlainReg) (s : State) :
    (readPlain r s).2.readData = s.readData := rfl

/-! ### readVolatile -/

@[simp] theorem readVolatile_bitmap (r : VolatileReg) (s : State) :
    (readVolatile r s).2.bitmap = s.bitmap := rfl
@[simp] theorem readVolatile_tapSet (r : VolatileReg) (s : State) :
    (readVolatile r s).2.tapSet = s.tapSet := rfl
@[simp] theorem readVolatile_timing (r : VolatileReg) (s : State) :
    (readVolatile r s).2.timing = s.timing := rfl
@[simp] theorem readVolatile_tuningActive (r : VolatileReg) (s : State) :
    (readVolatile r s).2.tuningActive = s.tuningActive := rfl
@[simp] theorem readVolatile_needsAdjust (r : VolatileReg) (s : State) :
    (readVolatile r s).2.needsAdjust = s.needsAdjust := rfl
@[simp] theorem readVolatile_mcalActive (r : VolatileReg) (s : State) :
    (readVolatile r s).2.mcalActive = s.mcalActive := rfl
@[simp] theorem readVolatile_err (r : VolatileReg) (s : State) :
    (readVolatile r s).2.err = s.err := rfl
@[simp] theorem readVolatile_driftEv (r : VolatileReg) (s : State) :
    (readVolatile r s).2.driftEv = s.driftEv := rfl
@[simp] theorem readVolatile_stkTimeout (r : VolatileReg) (s : State) :
    (readVolatile r s).2.stkTimeout = s.stkTimeout := rfl
@[simp] theorem readVolatile_stkIllegal (r : VolatileReg) (s : State) :
    (readVolatile r s).2.stkIllegal = s.stkIllegal := rfl
@[simp] theorem readVolatile_resultVal (r : VolatileReg) (s : State) :
    (readVolatile r s).2.resultVal = s.resultVal := rfl
@[simp] theorem readVolatile_resultFstep (r : VolatileReg) (s : State) :
    (readVolatile r s).2.resultFstep = s.resultFstep := rfl
@[simp] theorem readVolatile_winStart (r : VolatileReg) (s : State) :
    (readVolatile r s).2.winStart = s.winStart := rfl
@[simp] theorem readVolatile_winEnd (r : VolatileReg) (s : State) :
    (readVolatile r s).2.winEnd = s.winEnd := rfl
@[simp] theorem readVolatile_winLen (r : VolatileReg) (s : State) :
    (readVolatile r s).2.winLen = s.winLen := rfl
@[simp] theorem readVolatile_winValid (r : VolatileReg) (s : State) :
    (readVolatile r s).2.winValid = s.winValid := rfl
@[simp] theorem readVolatile_cfg (r : VolatileReg) (s : State) :
    (readVolatile r s).2.cfg = s.cfg := rfl
@[simp] theorem readVolatile_store (r : VolatileReg) (s : State) :
    (readVolatile r s).2.store = s.store := rfl
@[simp] theorem readVolatile_sources (r : VolatileReg) (s : State) :
    (readVolatile r s).2.sources = s.sources.put r (s.sources.get r).advance := rfl
@[simp] theorem readVolatile_trace (r : VolatileReg) (s : State) :
    (readVolatile r s).2.trace = s.trace ++ [.read (.volatile r) (s.upcoming r 0)] := rfl
@[simp] theorem readVolatile_inbox (r : VolatileReg) (s : State) :
    (readVolatile r s).2.inbox = s.inbox := rfl
@[simp] theorem readVolatile_readData (r : VolatileReg) (s : State) :
    (readVolatile r s).2.readData = s.readData := rfl

/-! ### writePlain -/

@[simp] theorem writePlain_bitmap (r : PlainReg) (v : Word) (s : State) :
    (writePlain r v s).bitmap = s.bitmap := rfl
@[simp] theorem writePlain_tapSet (r : PlainReg) (v : Word) (s : State) :
    (writePlain r v s).tapSet = s.tapSet := rfl
@[simp] theorem writePlain_timing (r : PlainReg) (v : Word) (s : State) :
    (writePlain r v s).timing = s.timing := rfl
@[simp] theorem writePlain_tuningActive (r : PlainReg) (v : Word) (s : State) :
    (writePlain r v s).tuningActive = s.tuningActive := rfl
@[simp] theorem writePlain_needsAdjust (r : PlainReg) (v : Word) (s : State) :
    (writePlain r v s).needsAdjust = s.needsAdjust := rfl
@[simp] theorem writePlain_mcalActive (r : PlainReg) (v : Word) (s : State) :
    (writePlain r v s).mcalActive = s.mcalActive := rfl
@[simp] theorem writePlain_err (r : PlainReg) (v : Word) (s : State) :
    (writePlain r v s).err = s.err := rfl
@[simp] theorem writePlain_driftEv (r : PlainReg) (v : Word) (s : State) :
    (writePlain r v s).driftEv = s.driftEv := rfl
@[simp] theorem writePlain_stkTimeout (r : PlainReg) (v : Word) (s : State) :
    (writePlain r v s).stkTimeout = s.stkTimeout := rfl
@[simp] theorem writePlain_stkIllegal (r : PlainReg) (v : Word) (s : State) :
    (writePlain r v s).stkIllegal = s.stkIllegal := rfl
@[simp] theorem writePlain_resultVal (r : PlainReg) (v : Word) (s : State) :
    (writePlain r v s).resultVal = s.resultVal := rfl
@[simp] theorem writePlain_resultFstep (r : PlainReg) (v : Word) (s : State) :
    (writePlain r v s).resultFstep = s.resultFstep := rfl
@[simp] theorem writePlain_winStart (r : PlainReg) (v : Word) (s : State) :
    (writePlain r v s).winStart = s.winStart := rfl
@[simp] theorem writePlain_winEnd (r : PlainReg) (v : Word) (s : State) :
    (writePlain r v s).winEnd = s.winEnd := rfl
@[simp] theorem writePlain_winLen (r : PlainReg) (v : Word) (s : State) :
    (writePlain r v s).winLen = s.winLen := rfl
@[simp] theorem writePlain_winValid (r : PlainReg) (v : Word) (s : State) :
    (writePlain r v s).winValid = s.winValid := rfl
@[simp] theorem writePlain_cfg (r : PlainReg) (v : Word) (s : State) :
    (writePlain r v s).cfg = s.cfg := rfl
@[simp] theorem writePlain_store (r : PlainReg) (v : Word) (s : State) :
    (writePlain r v s).store = s.store.put r v := rfl
@[simp] theorem writePlain_sources (r : PlainReg) (v : Word) (s : State) :
    (writePlain r v s).sources = s.sources := rfl
@[simp] theorem writePlain_trace (r : PlainReg) (v : Word) (s : State) :
    (writePlain r v s).trace = s.trace ++ [.write (.plain r) v] := rfl
@[simp] theorem writePlain_inbox (r : PlainReg) (v : Word) (s : State) :
    (writePlain r v s).inbox = s.inbox := rfl
@[simp] theorem writePlain_readData (r : PlainReg) (v : Word) (s : State) :
    (writePlain r v s).readData = s.readData := rfl

/-! ### writeVolatile -/

@[simp] theorem writeVolatile_bitmap (r : VolatileReg) (v : Word) (s : State) :
    (writeVolatile r v s).bitmap = s.bitmap := rfl
@[simp] theorem writeVolatile_tapSet (r : VolatileReg) (v : Word) (s : State) :
    (writeVolatile r v s).tapSet = s.tapSet := rfl
@[simp] theorem writeVolatile_timing (r : VolatileReg) (v : Word) (s : State) :
    (writeVolatile r v s).timing = s.timing := rfl
@[simp] theorem writeVolatile_tuningActive (r : VolatileReg) (v : Word) (s : State) :
    (writeVolatile r v s).tuningActive = s.tuningActive := rfl
@[simp] theorem writeVolatile_needsAdjust (r : VolatileReg) (v : Word) (s : State) :
    (writeVolatile r v s).needsAdjust = s.needsAdjust := rfl
@[simp] theorem writeVolatile_mcalActive (r : VolatileReg) (v : Word) (s : State) :
    (writeVolatile r v s).mcalActive = s.mcalActive := rfl
@[simp] theorem writeVolatile_err (r : VolatileReg) (v : Word) (s : State) :
    (writeVolatile r v s).err = s.err := rfl
@[simp] theorem writeVolatile_driftEv (r : VolatileReg) (v : Word) (s : State) :
    (writeVolatile r v s).driftEv = s.driftEv := rfl
@[simp] theorem writeVolatile_stkTimeout (r : VolatileReg) (v : Word) (s : State) :
    (writeVolatile r v s).stkTimeout = s.stkTimeout := rfl
@[simp] theorem writeVolatile_stkIllegal (r : VolatileReg) (v : Word) (s : State) :
    (writeVolatile r v s).stkIllegal = s.stkIllegal := rfl
@[simp] theorem writeVolatile_resultVal (r : VolatileReg) (v : Word) (s : State) :
    (writeVolatile r v s).resultVal = s.resultVal := rfl
@[simp] theorem writeVolatile_resultFstep (r : VolatileReg) (v : Word) (s : State) :
    (writeVolatile r v s).resultFstep = s.resultFstep := rfl
@[simp] theorem writeVolatile_winStart (r : VolatileReg) (v : Word) (s : State) :
    (writeVolatile r v s).winStart = s.winStart := rfl
@[simp] theorem writeVolatile_winEnd (r : VolatileReg) (v : Word) (s : State) :
    (writeVolatile r v s).winEnd = s.winEnd := rfl
@[simp] theorem writeVolatile_winLen (r : VolatileReg) (v : Word) (s : State) :
    (writeVolatile r v s).winLen = s.winLen := rfl
@[simp] theorem writeVolatile_winValid (r : VolatileReg) (v : Word) (s : State) :
    (writeVolatile r v s).winValid = s.winValid := rfl
@[simp] theorem writeVolatile_cfg (r : VolatileReg) (v : Word) (s : State) :
    (writeVolatile r v s).cfg = s.cfg := rfl
@[simp] theorem writeVolatile_store (r : VolatileReg) (v : Word) (s : State) :
    (writeVolatile r v s).store = s.store := rfl
@[simp] theorem writeVolatile_sources (r : VolatileReg) (v : Word) (s : State) :
    (writeVolatile r v s).sources = s.sources := rfl
@[simp] theorem writeVolatile_trace (r : VolatileReg) (v : Word) (s : State) :
    (writeVolatile r v s).trace = s.trace ++ [.write (.volatile r) v] := rfl
@[simp] theorem writeVolatile_inbox (r : VolatileReg) (v : Word) (s : State) :
    (writeVolatile r v s).inbox = s.inbox := rfl
@[simp] theorem writeVolatile_readData (r : VolatileReg) (v : Word) (s : State) :
    (writeVolatile r v s).readData = s.readData := rfl

/-! ### platWrite -/

@[simp] theorem platWrite_bitmap (v : Word) (s : State) :
    (platWrite v s).bitmap = s.bitmap := rfl
@[simp] theorem platWrite_tapSet (v : Word) (s : State) :
    (platWrite v s).tapSet = s.tapSet := rfl
@[simp] theorem platWrite_timing (v : Word) (s : State) :
    (platWrite v s).timing = s.timing := rfl
@[simp] theorem platWrite_tuningActive (v : Word) (s : State) :
    (platWrite v s).tuningActive = s.tuningActive := rfl
@[simp] theorem platWrite_needsAdjust (v : Word) (s : State) :
    (platWrite v s).needsAdjust = s.needsAdjust := rfl
@[simp] theorem platWrite_mcalActive (v : Word) (s : State) :
    (platWrite v s).mcalActive = s.mcalActive := rfl
@[simp] theorem platWrite_err (v : Word) (s : State) :
    (platWrite v s).err = s.err := rfl
@[simp] theorem platWrite_driftEv (v : Word) (s : State) :
    (platWrite v s).driftEv = s.driftEv := rfl
@[simp] theorem platWrite_stkTimeout (v : Word) (s : State) :
    (platWrite v s).stkTimeout = s.stkTimeout := rfl
@[simp] theorem platWrite_stkIllegal (v : Word) (s : State) :
    (platWrite v s).stkIllegal = s.stkIllegal := rfl
@[simp] theorem platWrite_resultVal (v : Word) (s : State) :
    (platWrite v s).resultVal = s.resultVal := rfl
@[simp] theorem platWrite_resultFstep (v : Word) (s : State) :
    (platWrite v s).resultFstep = s.resultFstep := rfl
@[simp] theorem platWrite_winStart (v : Word) (s : State) :
    (platWrite v s).winStart = s.winStart := rfl
@[simp] theorem platWrite_winEnd (v : Word) (s : State) :
    (platWrite v s).winEnd = s.winEnd := rfl
@[simp] theorem platWrite_winLen (v : Word) (s : State) :
    (platWrite v s).winLen = s.winLen := rfl
@[simp] theorem platWrite_winValid (v : Word) (s : State) :
    (platWrite v s).winValid = s.winValid := rfl
@[simp] theorem platWrite_cfg (v : Word) (s : State) :
    (platWrite v s).cfg = s.cfg := rfl
@[simp] theorem platWrite_store (v : Word) (s : State) :
    (platWrite v s).store = s.store.put .platCtrl v := rfl
@[simp] theorem platWrite_sources (v : Word) (s : State) :
    (platWrite v s).sources = s.sources := rfl
@[simp] theorem platWrite_trace (v : Word) (s : State) :
    (platWrite v s).trace = s.trace ++ [.plat v] := rfl
@[simp] theorem platWrite_inbox (v : Word) (s : State) :
    (platWrite v s).inbox = s.inbox := rfl
@[simp] theorem platWrite_readData (v : Word) (s : State) :
    (platWrite v s).readData = s.readData := rfl

/-! ### tuningBegin -/

@[simp] theorem tuningBegin_bitmap (s : State) :
    (tuningBegin s).bitmap = 0 := rfl
@[simp] theorem tuningBegin_tapSet (s : State) :
    (tuningBegin s).tapSet = s.tapSet := rfl
@[simp] theorem tuningBegin_timing (s : State) :
    (tuningBegin s).timing = s.timing := rfl
@[simp] theorem tuningBegin_tuningActive (s : State) :
    (tuningBegin s).tuningActive = true := rfl
@[simp] theorem tuningBegin_needsAdjust (s : State) :
    (tuningBegin s).needsAdjust = s.needsAdjust := rfl
@[simp] theorem tuningBegin_mcalActive (s : State) :
    (tuningBegin s).mcalActive = s.mcalActive := rfl
@[simp] theorem tuningBegin_err (s : State) :
    (tuningBegin s).err = s.err := rfl
@[simp] theorem tuningBegin_driftEv (s : State) :
    (tuningBegin s).driftEv = s.driftEv := rfl
@[simp] theorem tuningBegin_stkTimeout (s : State) :
    (tuningBegin s).stkTimeout = s.stkTimeout := rfl
@[simp] theorem tuningBegin_stkIllegal (s : State) :
    (tuningBegin s).stkIllegal = s.stkIllegal := rfl
@[simp] theorem tuningBegin_resultVal (s : State) :
    (tuningBegin s).resultVal = s.resultVal := rfl
@[simp] theorem tuningBegin_resultFstep (s : State) :
    (tuningBegin s).resultFstep = s.resultFstep := rfl
@[simp] theorem tuningBegin_winStart (s : State) :
    (tuningBegin s).winStart = 0 := rfl
@[simp] theorem tuningBegin_winEnd (s : State) :
    (tuningBegin s).winEnd = 0 := rfl
@[simp] theorem tuningBegin_winLen (s : State) :
    (tuningBegin s).winLen = 0 := rfl
@[simp] theorem tuningBegin_winValid (s : State) :
    (tuningBegin s).winValid = false := rfl
@[simp] theorem tuningBegin_cfg (s : State) :
    (tuningBegin s).cfg = s.cfg := rfl
@[simp] theorem tuningBegin_store (s : State) :
    (tuningBegin s).store = s.store := rfl
@[simp] theorem tuningBegin_sources (s : State) :
    (tuningBegin s).sources = s.sources := rfl
@[simp] theorem tuningBegin_trace (s : State) :
    (tuningBegin s).trace = s.trace := rfl
@[simp] theorem tuningBegin_inbox (s : State) :
    (tuningBegin s).inbox = s.inbox := rfl
@[simp] theorem tuningBegin_readData (s : State) :
    (tuningBegin s).readData = s.readData := rfl

/-! ### loadHalf -/

@[simp] theorem loadHalf_bitmap (base : Nat) (imm16 : BitVec 16) (s : State) :
    (loadHalf base imm16 s).bitmap = loadBits s.cfg.n base imm16 16 s.bitmap := rfl
@[simp] theorem loadHalf_tapSet (base : Nat) (imm16 : BitVec 16) (s : State) :
    (loadHalf base imm16 s).tapSet = s.tapSet := rfl
@[simp] theorem loadHalf_timing (base : Nat) (imm16 : BitVec 16) (s : State) :
    (loadHalf base imm16 s).timing = s.timing := rfl
@[simp] theorem loadHalf_tuningActive (base : Nat) (imm16 : BitVec 16) (s : State) :
    (loadHalf base imm16 s).tuningActive = s.tuningActive := rfl
@[simp] theorem loadHalf_needsAdjust (base : Nat) (imm16 : BitVec 16) (s : State) :
    (loadHalf base imm16 s).needsAdjust = s.needsAdjust := rfl
@[simp] theorem loadHalf_mcalActive (base : Nat) (imm16 : BitVec 16) (s : State) :
    (loadHalf base imm16 s).mcalActive = s.mcalActive := rfl
@[simp] theorem loadHalf_err (base : Nat) (imm16 : BitVec 16) (s : State) :
    (loadHalf base imm16 s).err = s.err := rfl
@[simp] theorem loadHalf_driftEv (base : Nat) (imm16 : BitVec 16) (s : State) :
    (loadHalf base imm16 s).driftEv = s.driftEv := rfl
@[simp] theorem loadHalf_stkTimeout (base : Nat) (imm16 : BitVec 16) (s : State) :
    (loadHalf base imm16 s).stkTimeout = s.stkTimeout := rfl
@[simp] theorem loadHalf_stkIllegal (base : Nat) (imm16 : BitVec 16) (s : State) :
    (loadHalf base imm16 s).stkIllegal = s.stkIllegal := rfl
@[simp] theorem loadHalf_resultVal (base : Nat) (imm16 : BitVec 16) (s : State) :
    (loadHalf base imm16 s).resultVal = s.resultVal := rfl
@[simp] theorem loadHalf_resultFstep (base : Nat) (imm16 : BitVec 16) (s : State) :
    (loadHalf base imm16 s).resultFstep = s.resultFstep := rfl
@[simp] theorem loadHalf_winStart (base : Nat) (imm16 : BitVec 16) (s : State) :
    (loadHalf base imm16 s).winStart = s.winStart := rfl
@[simp] theorem loadHalf_winEnd (base : Nat) (imm16 : BitVec 16) (s : State) :
    (loadHalf base imm16 s).winEnd = s.winEnd := rfl
@[simp] theorem loadHalf_winLen (base : Nat) (imm16 : BitVec 16) (s : State) :
    (loadHalf base imm16 s).winLen = s.winLen := rfl
@[simp] theorem loadHalf_winValid (base : Nat) (imm16 : BitVec 16) (s : State) :
    (loadHalf base imm16 s).winValid = s.winValid := rfl
@[simp] theorem loadHalf_cfg (base : Nat) (imm16 : BitVec 16) (s : State) :
    (loadHalf base imm16 s).cfg = s.cfg := rfl
@[simp] theorem loadHalf_store (base : Nat) (imm16 : BitVec 16) (s : State) :
    (loadHalf base imm16 s).store = s.store := rfl
@[simp] theorem loadHalf_sources (base : Nat) (imm16 : BitVec 16) (s : State) :
    (loadHalf base imm16 s).sources = s.sources := rfl
@[simp] theorem loadHalf_trace (base : Nat) (imm16 : BitVec 16) (s : State) :
    (loadHalf base imm16 s).trace = s.trace := rfl
@[simp] theorem loadHalf_inbox (base : Nat) (imm16 : BitVec 16) (s : State) :
    (loadHalf base imm16 s).inbox = s.inbox := rfl
@[simp] theorem loadHalf_readData (base : Nat) (imm16 : BitVec 16) (s : State) :
    (loadHalf base imm16 s).readData = s.readData := rfl

/-! ### mergeBitmap -/

@[simp] theorem mergeBitmap_bitmap (s : State) :
    (mergeBitmap s).bitmap = merge s.cfg.n s.bitmap := rfl
@[simp] theorem mergeBitmap_tapSet (s : State) :
    (mergeBitmap s).tapSet = s.tapSet := rfl
@[simp] theorem mergeBitmap_timing (s : State) :
    (mergeBitmap s).timing = s.timing := rfl
@[simp] theorem mergeBitmap_tuningActive (s : State) :
    (mergeBitmap s).tuningActive = s.tuningActive := rfl
@[simp] theorem mergeBitmap_needsAdjust (s : State) :
    (mergeBitmap s).needsAdjust = s.needsAdjust := rfl
@[simp] theorem mergeBitmap_mcalActive (s : State) :
    (mergeBitmap s).mcalActive = s.mcalActive := rfl
@[simp] theorem mergeBitmap_err (s : State) :
    (mergeBitmap s).err = s.err := rfl
@[simp] theorem mergeBitmap_driftEv (s : State) :
    (mergeBitmap s).driftEv = s.driftEv := rfl
@[simp] theorem mergeBitmap_stkTimeout (s : State) :
    (mergeBitmap s).stkTimeout = s.stkTimeout := rfl
@[simp] theorem mergeBitmap_stkIllegal (s : State) :
    (mergeBitmap s).stkIllegal = s.stkIllegal := rfl
@[simp] theorem mergeBitmap_resultVal (s : State) :
    (mergeBitmap s).resultVal = s.resultVal := rfl
@[simp] theorem mergeBitmap_resultFstep (s : State) :
    (mergeBitmap s).resultFstep = s.resultFstep := rfl
@[simp] theorem mergeBitmap_winStart (s : State) :
    (mergeBitmap s).winStart = s.winStart := rfl
@[simp] theorem mergeBitmap_winEnd (s : State) :
    (mergeBitmap s).winEnd = s.winEnd := rfl
@[simp] theorem mergeBitmap_winLen (s : State) :
    (mergeBitmap s).winLen = s.winLen := rfl
@[simp] theorem mergeBitmap_winValid (s : State) :
    (mergeBitmap s).winValid = s.winValid := rfl
@[simp] theorem mergeBitmap_cfg (s : State) :
    (mergeBitmap s).cfg = s.cfg := rfl
@[simp] theorem mergeBitmap_store (s : State) :
    (mergeBitmap s).store = s.store := rfl
@[simp] theorem mergeBitmap_sources (s : State) :
    (mergeBitmap s).sources = s.sources := rfl
@[simp] theorem mergeBitmap_trace (s : State) :
    (mergeBitmap s).trace = s.trace := rfl
@[simp] theorem mergeBitmap_inbox (s : State) :
    (mergeBitmap s).inbox = s.inbox := rfl
@[simp] theorem mergeBitmap_readData (s : State) :
    (mergeBitmap s).readData = s.readData := rfl

/-! ### rejectWindow -/

@[simp] theorem rejectWindow_bitmap (s : State) :
    (rejectWindow s).bitmap = s.bitmap := rfl
@[simp] theorem rejectWindow_tapSet (s : State) :
    (rejectWindow s).tapSet = s.tapSet := rfl
@[simp] theorem rejectWindow_timing (s : State) :
    (rejectWindow s).timing = s.timing := rfl
@[simp] theorem rejectWindow_tuningActive (s : State) :
    (rejectWindow s).tuningActive = false := rfl
@[simp] theorem rejectWindow_needsAdjust (s : State) :
    (rejectWindow s).needsAdjust = s.needsAdjust := rfl
@[simp] theorem rejectWindow_mcalActive (s : State) :
    (rejectWindow s).mcalActive = s.mcalActive := rfl
@[simp] theorem rejectWindow_err (s : State) :
    (rejectWindow s).err = s.err := rfl
@[simp] theorem rejectWindow_driftEv (s : State) :
    (rejectWindow s).driftEv = s.driftEv := rfl
@[simp] theorem rejectWindow_stkTimeout (s : State) :
    (rejectWindow s).stkTimeout = s.stkTimeout := rfl
@[simp] theorem rejectWindow_stkIllegal (s : State) :
    (rejectWindow s).stkIllegal = s.stkIllegal := rfl
@[simp] theorem rejectWindow_resultVal (s : State) :
    (rejectWindow s).resultVal = s.resultVal := rfl
@[simp] theorem rejectWindow_resultFstep (s : State) :
    (rejectWindow s).resultFstep = s.resultFstep := rfl
@[simp] theorem rejectWindow_winStart (s : State) :
    (rejectWindow s).winStart = 0 := rfl
@[simp] theorem rejectWindow_winEnd (s : State) :
    (rejectWindow s).winEnd = 0 := rfl
@[simp] theorem rejectWindow_winLen (s : State) :
    (rejectWindow s).winLen = 0 := rfl
@[simp] theorem rejectWindow_winValid (s : State) :
    (rejectWindow s).winValid = false := rfl
@[simp] theorem rejectWindow_cfg (s : State) :
    (rejectWindow s).cfg = s.cfg := rfl
@[simp] theorem rejectWindow_store (s : State) :
    (rejectWindow s).store = s.store := rfl
@[simp] theorem rejectWindow_sources (s : State) :
    (rejectWindow s).sources = s.sources := rfl
@[simp] theorem rejectWindow_trace (s : State) :
    (rejectWindow s).trace = s.trace := rfl
@[simp] theorem rejectWindow_inbox (s : State) :
    (rejectWindow s).inbox = s.inbox := rfl
@[simp] theorem rejectWindow_readData (s : State) :
    (rejectWindow s).readData = s.readData := rfl

/-! ### calibrationOn -/

@[simp] theorem calibrationOn_bitmap (s : State) :
    (calibrationOn s).bitmap = s.bitmap := rfl
@[simp] theorem calibrationOn_tapSet (s : State) :
    (calibrationOn s).tapSet = s.tapSet := rfl
@[simp] theorem calibrationOn_timing (s : State) :
    (calibrationOn s).timing = s.timing := rfl
@[simp] theorem calibrationOn_tuningActive (s : State) :
    (calibrationOn s).tuningActive = s.tuningActive := rfl
@[simp] theorem calibrationOn_needsAdjust (s : State) :
    (calibrationOn s).needsAdjust = false := rfl
@[simp] theorem calibrationOn_mcalActive (s : State) :
    (calibrationOn s).mcalActive = true := rfl
@[simp] theorem calibrationOn_err (s : State) :
    (calibrationOn s).err = s.err := rfl
@[simp] theorem calibrationOn_driftEv (s : State) :
    (calibrationOn s).driftEv = s.driftEv := rfl
@[simp] theorem calibrationOn_stkTimeout (s : State) :
    (calibrationOn s).stkTimeout = s.stkTimeout := rfl
@[simp] theorem calibrationOn_stkIllegal (s : State) :
    (calibrationOn s).stkIllegal = s.stkIllegal := rfl
@[simp] theorem calibrationOn_resultVal (s : State) :
    (calibrationOn s).resultVal = s.resultVal := rfl
@[simp] theorem calibrationOn_resultFstep (s : State) :
    (calibrationOn s).resultFstep = s.resultFstep := rfl
@[simp] theorem calibrationOn_winStart (s : State) :
    (calibrationOn s).winStart = s.winStart := rfl
@[simp] theorem calibrationOn_winEnd (s : State) :
    (calibrationOn s).winEnd = s.winEnd := rfl
@[simp] theorem calibrationOn_winLen (s : State) :
    (calibrationOn s).winLen = s.winLen := rfl
@[simp] theorem calibrationOn_winValid (s : State) :
    (calibrationOn s).winValid = s.winValid := rfl
@[simp] theorem calibrationOn_cfg (s : State) :
    (calibrationOn s).cfg = s.cfg := rfl
@[simp] theorem calibrationOn_store (s : State) :
    (calibrationOn s).store = s.store := rfl
@[simp] theorem calibrationOn_sources (s : State) :
    (calibrationOn s).sources = s.sources := rfl
@[simp] theorem calibrationOn_trace (s : State) :
    (calibrationOn s).trace = s.trace := rfl
@[simp] theorem calibrationOn_inbox (s : State) :
    (calibrationOn s).inbox = s.inbox := rfl
@[simp] theorem calibrationOn_readData (s : State) :
    (calibrationOn s).readData = s.readData := rfl

/-! ### calibrationOff -/

@[simp] theorem calibrationOff_bitmap (s : State) :
    (calibrationOff s).bitmap = s.bitmap := rfl
@[simp] theorem calibrationOff_tapSet (s : State) :
    (calibrationOff s).tapSet = s.tapSet := rfl
@[simp] theorem calibrationOff_timing (s : State) :
    (calibrationOff s).timing = s.timing := rfl
@[simp] theorem calibrationOff_tuningActive (s : State) :
    (calibrationOff s).tuningActive = s.tuningActive := rfl
@[simp] theorem calibrationOff_needsAdjust (s : State) :
    (calibrationOff s).needsAdjust = false := rfl
@[simp] theorem calibrationOff_mcalActive (s : State) :
    (calibrationOff s).mcalActive = false := rfl
@[simp] theorem calibrationOff_err (s : State) :
    (calibrationOff s).err = s.err := rfl
@[simp] theorem calibrationOff_driftEv (s : State) :
    (calibrationOff s).driftEv = s.driftEv := rfl
@[simp] theorem calibrationOff_stkTimeout (s : State) :
    (calibrationOff s).stkTimeout = s.stkTimeout := rfl
@[simp] theorem calibrationOff_stkIllegal (s : State) :
    (calibrationOff s).stkIllegal = s.stkIllegal := rfl
@[simp] theorem calibrationOff_resultVal (s : State) :
    (calibrationOff s).resultVal = s.resultVal := rfl
@[simp] theorem calibrationOff_resultFstep (s : State) :
    (calibrationOff s).resultFstep = s.resultFstep := rfl
@[simp] theorem calibrationOff_winStart (s : State) :
    (calibrationOff s).winStart = s.winStart := rfl
@[simp] theorem calibrationOff_winEnd (s : State) :
    (calibrationOff s).winEnd = s.winEnd := rfl
@[simp] theorem calibrationOff_winLen (s : State) :
    (calibrationOff s).winLen = s.winLen := rfl
@[simp] theorem calibrationOff_winValid (s : State) :
    (calibrationOff s).winValid = s.winValid := rfl
@[simp] theorem calibrationOff_cfg (s : State) :
    (calibrationOff s).cfg = s.cfg := rfl
@[simp] theorem calibrationOff_store (s : State) :
    (calibrationOff s).store = s.store := rfl
@[simp] theorem calibrationOff_sources (s : State) :
    (calibrationOff s).sources = s.sources := rfl
@[simp] theorem calibrationOff_trace (s : State) :
    (calibrationOff s).trace = s.trace := rfl
@[simp] theorem calibrationOff_inbox (s : State) :
    (calibrationOff s).inbox = s.inbox := rfl
@[simp] theorem calibrationOff_readData (s : State) :
    (calibrationOff s).readData = s.readData := rfl

/-! ### baseline -/

@[simp] theorem baseline_bitmap (s : State) :
    (baseline s).bitmap = 0 := rfl
@[simp] theorem baseline_tapSet (s : State) :
    (baseline s).tapSet = 0 := rfl
@[simp] theorem baseline_timing (s : State) :
    (baseline s).timing = s.timing := rfl
@[simp] theorem baseline_tuningActive (s : State) :
    (baseline s).tuningActive = false := rfl
@[simp] theorem baseline_needsAdjust (s : State) :
    (baseline s).needsAdjust = false := rfl
@[simp] theorem baseline_mcalActive (s : State) :
    (baseline s).mcalActive = false := rfl
@[simp] theorem baseline_err (s : State) :
    (baseline s).err = s.err := rfl
@[simp] theorem baseline_driftEv (s : State) :
    (baseline s).driftEv = .noError := rfl
@[simp] theorem baseline_stkTimeout (s : State) :
    (baseline s).stkTimeout = s.stkTimeout := rfl
@[simp] theorem baseline_stkIllegal (s : State) :
    (baseline s).stkIllegal = s.stkIllegal := rfl
@[simp] theorem baseline_resultVal (s : State) :
    (baseline s).resultVal = s.resultVal := rfl
@[simp] theorem baseline_resultFstep (s : State) :
    (baseline s).resultFstep = s.resultFstep := rfl
@[simp] theorem baseline_winStart (s : State) :
    (baseline s).winStart = 0 := rfl
@[simp] theorem baseline_winEnd (s : State) :
    (baseline s).winEnd = 0 := rfl
@[simp] theorem baseline_winLen (s : State) :
    (baseline s).winLen = 0 := rfl
@[simp] theorem baseline_winValid (s : State) :
    (baseline s).winValid = false := rfl
@[simp] theorem baseline_cfg (s : State) :
    (baseline s).cfg = s.cfg := rfl
@[simp] theorem baseline_store (s : State) :
    (baseline s).store = s.store := rfl
@[simp] theorem baseline_sources (s : State) :
    (baseline s).sources = s.sources := rfl
@[simp] theorem baseline_trace (s : State) :
    (baseline s).trace = s.trace := rfl
@[simp] theorem baseline_inbox (s : State) :
    (baseline s).inbox = s.inbox := rfl
@[simp] theorem baseline_readData (s : State) :
    (baseline s).readData = s.readData := rfl

end Sys2Proof.Machine
end

