-- ==== Sys2Proof/Laws/Bits.lean ====
section
/-! SUPPORT. Bit by bit: what `setBit`, the shapes of the host-port registers and the encodings hold. -/

namespace Sys2Proof.Machine

open Sys2Proof

theorem setBit_getLsbD (b : Word) (i : Nat) (v : Bool) (j : Nat) (hi : i < 32) :
    (setBit b i v).getLsbD j = if j = i then v else b.getLsbD j := by
  by_cases hj : j < 32
  · by_cases hji : j = i
    · subst hji
      cases v <;> simp [setBit, hj]
    · cases v <;> simp [setBit, hj, hji]
  · have h1 : 32 ≤ j := by omega
    have h2 : j ≠ i := by omega
    simp [BitVec.getLsbD_of_ge _ _ h1, h2]

/-- Setting a bit past the end of the word does nothing. -/
theorem setBit_of_ge (b : Word) {i : Nat} (v : Bool) (hi : 32 ≤ i) : setBit b i v = b := by
  have h : BitVec.twoPow 32 i = 0#32 := by
    apply BitVec.eq_of_getLsbD_eq
    intro j hj
    simp [BitVec.getLsbD_twoPow]
    omega
  cases v
  · simp only [setBit, h, Bool.false_eq_true, if_false]
    rw [show ~~~(0#32) = BitVec.allOnes 32 by decide, BitVec.and_allOnes]
  · simp [setBit, h]

theorem placed_getLsbD (lo : Nat) {width : Nat} (v : BitVec width) (j : Nat) (hj : j < 32) :
    (placed lo v).getLsbD j = (decide (lo ≤ j) && v.getLsbD (j - lo)) := by
  by_cases h : lo ≤ j
  · have h' : ¬ j < lo := by omega
    simp [placed, hj, h, h']
  · simp [placed, hj, h]

theorem placedBit_getLsbD (lo : Nat) (b : Bool) (j : Nat) (hj : j < 32) :
    (placedBit lo b).getLsbD j = (decide (j = lo) && b) := by
  rw [placedBit, placed_getLsbD _ _ _ hj]
  by_cases h : j = lo
  · subst h; simp
  · by_cases h2 : lo ≤ j
    · have : ¬ j - lo = 0 := by omega
      simp [h, h2, this]
    · simp [h, h2]

@[simp] theorem placed_getElem (lo : Nat) {width : Nat} (v : BitVec width) (j : Nat) (hj : j < 32) :
    (placed lo v)[j] = (decide (lo ≤ j) && v.getLsbD (j - lo)) := by
  rw [← BitVec.getLsbD_eq_getElem, placed_getLsbD _ _ _ hj]

@[simp] theorem placedBit_getElem (lo : Nat) (b : Bool) (j : Nat) (hj : j < 32) :
    (placedBit lo b)[j] = (decide (j = lo) && b) := by
  rw [← BitVec.getLsbD_eq_getElem, placedBit_getLsbD _ _ _ hj]

end Sys2Proof.Machine
end

