-- ==== Sys2Proof/Laws/PerInstr.lean ====
section
/-! SUPPORT. Statements about every command, one lemma per constructor. Family `TableRow`: the word of a command
belongs to its own row of the opcode table (30_encoding.md R97, R98). -/

namespace Sys2Proof.Laws.TableRow

open Sys2Proof

/-- Some row of the opcode table has the command's mnemonic and covers its word. -/
def Statement (i : Instr) : Prop := ∃ row ∈ opcodeRows, row.mnemonic = i.mnemonic ∧ row.covers (encode i) = true

theorem encodeI8_masked (op imm8 : BitVec 8) :
    encodeI8 op imm8 &&& 0xFFFFFF00#32 = encodeZ op := by
  apply BitVec.eq_of_getLsbD_eq
  intro j hj
  interval_cases j <;> simp [encodeI8, encodeZ]

theorem encodeI16_masked (op : BitVec 8) (imm16 : BitVec 16) :
    encodeI16 op imm16 &&& 0xFFFF0000#32 = encodeZ op := by
  apply BitVec.eq_of_getLsbD_eq
  intro j hj
  interval_cases j <;> simp [encodeI16, encodeZ]

theorem encodePB_masked (op : BitVec 8) (p : Bool) (idx : BitVec 8) :
    encodePB op p idx &&& 0xFFFFFE00#32 = encodeZ op := by
  apply BitVec.eq_of_getLsbD_eq
  intro j hj
  interval_cases j <;> simp [encodePB, encodeZ]

theorem nop : Statement .nop := by unfold Statement; decide

theorem tbegin : Statement .tbegin := by unfold Statement; decide

theorem probe (p : Bool) (idx : BitVec 8) : Statement (.probe p idx) :=
  ⟨⟨.probe, 0x11000000#32, 0xFFFFFE00#32⟩, by decide, rfl,
    by simp only [OpcodeRow.covers, encode, encodePB_masked]; decide⟩

theorem ldbl (imm16 : BitVec 16) : Statement (.ldbl imm16) :=
  ⟨⟨.ldbl, 0x12000000#32, 0xFFFF0000#32⟩, by decide, rfl,
    by simp only [OpcodeRow.covers, encode, encodeI16_masked]; decide⟩

theorem ldbh (imm16 : BitVec 16) : Statement (.ldbh imm16) :=
  ⟨⟨.ldbh, 0x13000000#32, 0xFFFF0000#32⟩, by decide, rfl,
    by simp only [OpcodeRow.covers, encode, encodeI16_masked]; decide⟩

theorem tune : Statement .tune := by unfold Statement; decide

theorem settm (imm8 : BitVec 8) : Statement (.settm imm8) :=
  ⟨⟨.settm, 0x30000000#32, 0xFFFFFF00#32⟩, by decide, rfl,
    by simp only [OpcodeRow.covers, encode, encodeI8_masked]; decide⟩

theorem drift : Statement .drift := by unfold Statement; decide

theorem hs4ent : Statement .hs4ent := by unfold Statement; decide

theorem hs4ext : Statement .hs4ext := by unfold Statement; decide

theorem hwrst : Statement .hwrst := by unfold Statement; decide

theorem clkup (imm8 : BitVec 8) : Statement (.clkup imm8) :=
  ⟨⟨.clkup, 0x50000000#32, 0xFFFFFF00#32⟩, by decide, rfl,
    by simp only [OpcodeRow.covers, encode, encodeI8_masked]; decide⟩

theorem mcalen : Statement .mcalen := by unfold Statement; decide

theorem mcaldis : Statement .mcaldis := by unfold Statement; decide

end Sys2Proof.Laws.TableRow
end

