-- ==== Sys2Proof/Laws/Ops.lean ====
section
/-! SUPPORT. For each shared operation of Machine/Ops.lean, everything it can do: registers, reads of volatile registers,
the poll and the protected writes, procedures, and the frame every command runs in. -/

namespace Sys2Proof.Machine

open Sys2Proof

/-! ### Registers -/

@[simp] theorem Store.get_put_same (m : Store) (r : PlainReg) (v : Word) : (m.put r v).get r = v := by
  cases r <;> rfl

theorem Store.get_put_other (m : Store) {r q : PlainReg} (v : Word) (h : q ≠ r) : (m.put r v).get q = m.get q := by
  cases r <;> cases q <;> first | rfl | exact absurd rfl h

theorem Store.ext_get {m m' : Store} (h : ∀ r, m.get r = m'.get r) : m = m' := by
  cases m; cases m'
  simpa [Store.get] using And.intro (h .gcbClkctl) <| And.intro (h .gcbIfmode) <| And.intro (h .ctbTapcfg) <|
    And.intro (h .ctbTapset) <| And.intro (h .ctbTappos) <| And.intro (h .ctbRvscntl) <| And.intro (h .ctbAdjctl) <|
    And.intro (h .ctbWpunlock) <| And.intro (h .ctbMancal) <| And.intro (h .ctbCalofs) (h .platCtrl)

@[simp] theorem Sources.get_put_same (m : Sources) (r : VolatileReg) (x : Source) : (m.put r x).get r = x := by
  cases r <;> rfl

theorem Sources.get_put_other (m : Sources) {r q : VolatileReg} (x : Source) (h : q ≠ r) :
    (m.put r x).get q = m.get q := by
  cases r <;> cases q <;> first | rfl | exact absurd rfl h

@[simp] theorem Sources.put_put (m : Sources) (r : VolatileReg) (x y : Source) : (m.put r x).put r y = m.put r y := by
  cases r <;> rfl

@[simp] theorem Sources.put_get (m : Sources) (r : VolatileReg) : m.put r (m.get r) = m := by cases r <;> rfl

@[simp] theorem Source.advanceBy_zero (x : Source) : x.advanceBy 0 = x := rfl

theorem Source.advance_advanceBy (x : Source) (count : Nat) : x.advance.advanceBy count = x.advanceBy (count + 1) := by
  simp [Source.advance, Source.advanceBy, Nat.add_comm, Nat.add_left_comm]

/-! ### What volatile registers will read as -/

theorem State.upcoming_eq_of_sources {s t : State} (h : t.sources = s.sources) (r : VolatileReg) (j : Nat) :
    t.upcoming r j = s.upcoming r j := by
  simp [State.upcoming, h]

theorem State.upcoming_advanced {s t : State} {r : VolatileReg}
    (h : t.sources.get r = (s.sources.get r).advance) (j : Nat) : t.upcoming r j = s.upcoming r (j + 1) := by
  simp only [State.upcoming, h, Source.advance, List.getElem?_tail]
  rw [show (s.sources.get r).reads + 1 + j = (s.sources.get r).reads + (j + 1) by omega]

theorem State.upcoming_advancedBy {s t : State} {r : VolatileReg} {m : Nat}
    (h : t.sources.get r = (s.sources.get r).advanceBy m) (j : Nat) : t.upcoming r j = s.upcoming r (m + j) := by
  simp only [State.upcoming, h, Source.advanceBy, List.getElem?_drop]
  rw [show (s.sources.get r).reads + m + j = (s.sources.get r).reads + (m + j) by omega]

theorem State.upcoming_consume_same (s : State) (r : VolatileReg) (j : Nat) :
    (s.consume r).upcoming r j = s.upcoming r (j + 1) :=
  State.upcoming_advanced (by simp) j

theorem State.upcoming_consume_other (s : State) {r q : VolatileReg} (h : q ≠ r) (j : Nat) :
    (s.consume r).upcoming q j = s.upcoming q j := by
  simp [State.upcoming, Sources.get_put_other _ _ h]

@[simp] theorem readPlain_value (r : PlainReg) (s : State) : (readPlain r s).1 = s.store.get r := rfl

@[simp] theorem readVolatile_value (r : VolatileReg) (s : State) : (readVolatile r s).1 = s.upcoming r 0 := rfl

/-! ### The poll -/

/-- The state after `count` polls. -/
def State.afterPolls (s : State) (count : Nat) : State :=
  { s with
    sources := s.sources.put .gcbStatus ((s.sources.get .gcbStatus).advanceBy count)
    trace := s.trace ++ s.pollEvents count }

@[simp] theorem State.afterPolls_bitmap (s : State) (count : Nat) : (s.afterPolls count).bitmap = s.bitmap := rfl
@[simp] theorem State.afterPolls_tapSet (s : State) (count : Nat) : (s.afterPolls count).tapSet = s.tapSet := rfl
@[simp] theorem State.afterPolls_timing (s : State) (count : Nat) : (s.afterPolls count).timing = s.timing := rfl
@[simp] theorem State.afterPolls_tuningActive (s : State) (count : Nat) : (s.afterPolls count).tuningActive = s.tuningActive := rfl
@[simp] theorem State.afterPolls_needsAdjust (s : State) (count : Nat) : (s.afterPolls count).needsAdjust = s.needsAdjust := rfl
@[simp] theorem State.afterPolls_mcalActive (s : State) (count : Nat) : (s.afterPolls count).mcalActive = s.mcalActive := rfl
@[simp] theorem State.afterPolls_err (s : State) (count : Nat) : (s.afterPolls count).err = s.err := rfl
@[simp] theorem State.afterPolls_driftEv (s : State) (count : Nat) : (s.afterPolls count).driftEv = s.driftEv := rfl
@[simp] theorem State.afterPolls_stkTimeout (s : State) (count : Nat) : (s.afterPolls count).stkTimeout = s.stkTimeout := rfl
@[simp] theorem State.afterPolls_stkIllegal (s : State) (count : Nat) : (s.afterPolls count).stkIllegal = s.stkIllegal := rfl
@[simp] theorem State.afterPolls_resultVal (s : State) (count : Nat) : (s.afterPolls count).resultVal = s.resultVal := rfl
@[simp] theorem State.afterPolls_resultFstep (s : State) (count : Nat) : (s.afterPolls count).resultFstep = s.resultFstep := rfl
@[simp] theorem State.afterPolls_winStart (s : State) (count : Nat) : (s.afterPolls count).winStart = s.winStart := rfl
@[simp] theorem State.afterPolls_winEnd (s : State) (count : Nat) : (s.afterPolls count).winEnd = s.winEnd := rfl
@[simp] theorem State.afterPolls_winLen (s : State) (count : Nat) : (s.afterPolls count).winLen = s.winLen := rfl
@[simp] theorem State.afterPolls_winValid (s : State) (count : Nat) : (s.afterPolls count).winValid = s.winValid := rfl
@[simp] theorem State.afterPolls_cfg (s : State) (count : Nat) : (s.afterPolls count).cfg = s.cfg := rfl
@[simp] theorem State.afterPolls_store (s : State) (count : Nat) : (s.afterPolls count).store = s.store := rfl
@[simp] theorem State.afterPolls_inbox (s : State) (count : Nat) : (s.afterPolls count).inbox = s.inbox := rfl
@[simp] theorem State.afterPolls_readData (s : State) (count : Nat) : (s.afterPolls count).readData = s.readData := rfl

@[simp] theorem State.afterPolls_sources (s : State) (count : Nat) :
    (s.afterPolls count).sources = s.sources.put .gcbStatus ((s.sources.get .gcbStatus).advanceBy count) := rfl

@[simp] theorem State.afterPolls_trace (s : State) (count : Nat) :
    (s.afterPolls count).trace = s.trace ++ s.pollEvents count := rfl

theorem State.afterPolls_zero (s : State) : s.afterPolls 0 = s := by
  simp [State.afterPolls, State.pollEvents]

theorem State.pollEvents_succ {s t : State} (h : t.sources.get .gcbStatus = (s.sources.get .gcbStatus).advance)
    (count : Nat) :
    .read (.volatile .gcbStatus) (s.upcoming .gcbStatus 0) :: t.pollEvents count = s.pollEvents (count + 1) := by
  simp [State.pollEvents, List.range_succ_eq_map, State.upcoming_advanced h, Function.comp_def]

theorem State.afterPolls_succ (s : State) (count : Nat) :
    (readVolatile .gcbStatus s).2.afterPolls count = s.afterPolls (count + 1) := by
  have h : (readVolatile .gcbStatus s).2.sources.get .gcbStatus = (s.sources.get .gcbStatus).advance := by simp
  simp only [State.afterPolls, readVolatile_sources, readVolatile_trace, Sources.put_put, Sources.get_put_same,
    Source.advance_advanceBy, ← State.pollEvents_succ h, List.append_assoc, List.singleton_append]
  rfl

theorem State.busyFor_succ {s : State} {count : Nat} (h0 : idle s.cfg (s.upcoming .gcbStatus 0) = false)
    (h : (readVolatile .gcbStatus s).2.BusyFor count) : s.BusyFor (count + 1) := by
  rintro (_ | j) hj
  · exact h0
  · have := h j (by omega)
    rwa [State.upcoming_advanced (s := s) (by simp), readVolatile_cfg] at this

/-- Everything a poll can do (R110): the first idle value ends it, or none of the reads allowed is idle. -/
theorem poll_cases (k : Nat) : ∀ (left : Nat) (s : State),
    (∃ m, m < left ∧ s.BusyFor m ∧ idle s.cfg (s.upcoming .gcbStatus m) = true ∧
        poll k left s = .done () (s.afterPolls (m + 1))) ∨
      (s.BusyFor left ∧ poll k left s = .raised (.idleTimeout k) (s.afterPolls left)) := by
  intro left
  induction left with
  | zero =>
    intro s
    exact .inr ⟨fun _ h => absurd h (Nat.not_lt_zero _), by rw [State.afterPolls_zero]; rfl⟩
  | succ left ih =>
    intro s
    by_cases hs : idle s.cfg (s.upcoming .gcbStatus 0) = true
    · refine .inl ⟨0, by omega, fun _ h => absurd h (Nat.not_lt_zero _), hs, ?_⟩
      rw [← State.afterPolls_succ, State.afterPolls_zero]
      simp [poll, hs]
    · have hs' : idle s.cfg (s.upcoming .gcbStatus 0) = false := by simpa using hs
      have hstep : poll k (left + 1) s = poll k left (readVolatile .gcbStatus s).2 := by simp [poll, hs']
      rcases ih (readVolatile .gcbStatus s).2 with ⟨m, hm, hb, hi, hp⟩ | ⟨hb, hp⟩
      · refine .inl ⟨m + 1, by omega, State.busyFor_succ hs' hb, ?_, ?_⟩
        · rwa [State.upcoming_advanced (s := s) (by simp), readVolatile_cfg] at hi
        · rw [hstep, hp, State.afterPolls_succ]
      · exact .inr ⟨State.busyFor_succ hs' hb, by rw [hstep, hp, State.afterPolls_succ]⟩

/-- A protected write makes its write and then some polls; it ends there or raises its own label (R110, R113). -/
theorem writeProtected_cases (r : PlainReg) (v : Word) (k : Nat) (s : State) :
    ∃ m, writeProtected r v k s = .done () ((writePlain r v s).afterPolls m) ∨
      writeProtected r v k s = .raised (.idleTimeout k) ((writePlain r v s).afterPolls m) := by
  rcases poll_cases k s.cfg.pollLimit (writePlain r v s) with ⟨m, _, _, _, h⟩ | ⟨_, h⟩
  · exact ⟨m + 1, .inl h⟩
  · exact ⟨_, .inr h⟩

theorem State.busyFrom_zero (s : State) (count : Nat) : s.BusyFrom 0 count ↔ s.BusyFor count := by
  simp only [State.BusyFrom, State.BusyFor, Nat.zero_add]

theorem State.busyFrom_advanced {s t : State} {m : Nat} (hc : t.cfg = s.cfg)
    (h : t.sources.get .gcbStatus = (s.sources.get .gcbStatus).advanceBy m) (start count : Nat) :
    t.BusyFrom start count ↔ s.BusyFrom (m + start) count := by
  simp only [State.BusyFrom, hc, State.upcoming_advancedBy h, Nat.add_assoc]

/-- What the bus does after `m` polls is what it was going to do from draw number `m` on. -/
theorem State.settles_advanced {s t : State} {m : Nat} (hc : t.cfg = s.cfg)
    (h : t.sources.get .gcbStatus = (s.sources.get .gcbStatus).advanceBy m) (polls : List Nat) :
    ∀ start, t.Settles start polls ↔ s.Settles (m + start) polls := by
  induction polls with
  | nil => exact fun _ => Iff.rfl
  | cons p rest ih =>
    intro start
    simp only [State.Settles, State.busyFrom_advanced hc h, hc, State.upcoming_advancedBy h, ih, Nat.add_assoc]

/-- A poll that first reads idle after `m` busy reads, `m` below the limit, ends with that read (R110). -/
theorem poll_settles (k : Nat) {left m : Nat} {s : State} (hm : m < left) (hb : s.BusyFor m)
    (hi : idle s.cfg (s.upcoming .gcbStatus m) = true) : poll k left s = .done () (s.afterPolls (m + 1)) := by
  rcases poll_cases k left s with ⟨p, _, hb', hi', h⟩ | ⟨hb', _⟩
  · rcases Nat.lt_trichotomy p m with hlt | rfl | hgt
    · simp [hb p hlt] at hi'
    · exact h
    · simp [hb' m hgt] at hi
  · simp [hb' m hm] at hi

/-- A protected write that settles after `m` busy reads makes its write and `m + 1` polls, and leaves the later writes to
settle as they were to. -/
theorem writeProtected_settles {r : PlainReg} {v : Word} {k m : Nat} {rest : List Nat} {s : State}
    (h : s.Settles 0 (m :: rest)) :
    writeProtected r v k s = .done () ((writePlain r v s).afterPolls (m + 1)) ∧
      ((writePlain r v s).afterPolls (m + 1)).Settles 0 rest := by
  obtain ⟨hm, hb, hi, hr⟩ := h
  rw [Nat.zero_add] at hi
  exact ⟨poll_settles k hm ((s.busyFrom_zero m).mp hb) hi,
    (State.settles_advanced (m := m + 1) (s := s) (t := (writePlain r v s).afterPolls (m + 1)) rfl (by simp) rest 0).mpr
      (by simpa using hr)⟩

/-! ### Writes in a trace -/

theorem writesOf_append (a b : List BusEvent) : writesOf (a ++ b) = writesOf a ++ writesOf b := by
  simp [writesOf]

@[simp] theorem writesOf_pollEvents (s : State) (count : Nat) : writesOf (s.pollEvents count) = [] := by
  simp [writesOf, State.pollEvents, BusEvent.isWrite]

@[simp] theorem writesOf_pollEventsFrom (s : State) (start count : Nat) :
    writesOf (s.pollEventsFrom start count) = [] := by
  simp [writesOf, State.pollEventsFrom, BusEvent.isWrite]

theorem State.pollEventsFrom_zero (s : State) (count : Nat) : s.pollEventsFrom 0 count = s.pollEvents count := by
  simp [State.pollEventsFrom, State.pollEvents]

theorem State.pollEvents_advanced {s t : State} {m : Nat}
    (h : t.sources.get .gcbStatus = (s.sources.get .gcbStatus).advanceBy m) (count : Nat) :
    t.pollEvents count = s.pollEventsFrom m count := by
  simp [State.pollEvents, State.pollEventsFrom, State.upcoming_advancedBy h]

/-! ### Protected steps -/

@[simp] theorem drawsOf_nil : drawsOf [] = 0 := rfl

@[simp] theorem drawsOf_cons (m : Nat) (polls : List Nat) : drawsOf (m :: polls) = m + 1 + drawsOf polls := by
  simp only [drawsOf, List.sum_cons, List.length_cons]
  omega

@[simp] theorem stored_nil (m : Store) : stored [] m = m := rfl

@[simp] theorem stored_cons (x : ProtectedStep) (steps : List ProtectedStep) (m : Store) :
    stored (x :: steps) m = stored steps (m.put x.reg x.value) := rfl

theorem stored_append (a b : List ProtectedStep) (m : Store) : stored (a ++ b) m = stored b (stored a m) :=
  List.foldl_append

/-! ### Procedures -/

/-- The state a procedure ends in, whether it raised or not. -/
def Proc.state {α : Type} : Proc α → State
  | .done _ s => s
  | .raised _ s => s

@[simp] theorem Proc.done_andThen {α β : Type} (a : α) (s : State) (f : α → State → Proc β) :
    (Proc.done a s).andThen f = f a s := rfl

@[simp] theorem Proc.raised_andThen {α β : Type} (x : Raise) (s : State) (f : α → State → Proc β) :
    (Proc.raised x s : Proc α).andThen f = .raised x s := rfl

/-- A procedure in two parts ended in the first part or in the second. -/
theorem Proc.andThen_cases {α β : Type} (p : Proc α) (f : α → State → Proc β) :
    (∃ x s, p = .raised x s ∧ p.andThen f = .raised x s) ∨ (∃ a s, p = .done a s ∧ p.andThen f = f a s) := by
  cases p with
  | done a s => exact .inr ⟨a, s, rfl, rfl⟩
  | raised x s => exact .inl ⟨x, s, rfl, rfl⟩

@[simp] theorem runActions_nil (s : State) : runActions [] s = .done () s := rfl

theorem runActions_cons (a : Action) (rest : List Action) (s : State) :
    runActions (a :: rest) s = (a s).andThen fun _ t => runActions rest t := rfl

/-- Lines after a line that is done. -/
theorem runActions_done {a : Action} {rest : List Action} {s t : State} (h : a s = .done () t) :
    runActions (a :: rest) s = runActions rest t := by rw [runActions_cons, h, Proc.done_andThen]

/-- Lines after a line that raises do not run (00_scope.md R17). -/
theorem runActions_raised {a : Action} {rest : List Action} {s t : State} {x : Raise} (h : a s = .raised x t) :
    runActions (a :: rest) s = .raised x t := by rw [runActions_cons, h, Proc.raised_andThen]

@[simp] theorem update_apply (f : State → State) (s : State) : update f s = .done () (f s) := rfl

theorem onlyIf_true {test : State → Bool} {a : Action} {s : State} (h : test s = true) : onlyIf test a s = a s := by
  simp [onlyIf, h]

theorem onlyIf_false {test : State → Bool} {a : Action} {s : State} (h : test s = false) :
    onlyIf test a s = .done () s := by
  simp [onlyIf, h]

/-- Relation `R` holds between the state before an action and the state it ends in. -/
def Respects (R : State → State → Prop) (a : Action) : Prop := ∀ s, R s (a s).state

/-- A relation that each line respects is respected by the lines together. -/
theorem runActions_respects {R : State → State → Prop} (refl : ∀ s, R s s)
    (trans : ∀ s t u, R s t → R t u → R s u) :
    ∀ {l : List Action}, (∀ a ∈ l, Respects R a) → Respects R (runActions l) := by
  intro l
  induction l with
  | nil => exact fun _ s => refl s
  | cons a rest ih =>
    intro h s
    have ha := h a List.mem_cons_self s
    rcases Proc.andThen_cases (a s) (fun _ t => runActions rest t) with ⟨x, t, h1, h2⟩ | ⟨u, t, h1, h2⟩
    · rw [runActions_cons, h2]
      rwa [h1] at ha
    · rw [runActions_cons, h2]
      rw [h1] at ha
      exact trans _ _ _ ha (ih (fun b hb => h b (List.mem_cons_of_mem _ hb)) t)

theorem onlyIf_respects {R : State → State → Prop} (refl : ∀ s, R s s) {test : State → Bool} {a : Action}
    (h : Respects R a) : Respects R (onlyIf test a) := by
  intro s
  by_cases ht : test s = true
  · rw [onlyIf_true ht]
    exact h s
  · rw [onlyIf_false (by simpa using ht)]
    exact refl s

/-- A protected write respects a relation that its write and the polls respect. -/
theorem writeProtected_respects {R : State → State → Prop} {r : PlainReg} {v : Word} {k : Nat}
    (h : ∀ s m, R s ((writePlain r v s).afterPolls m)) : Respects R (writeProtected r v k) := by
  intro s
  obtain ⟨m, hm | hm⟩ := writeProtected_cases r v k s <;> rw [hm] <;> exact h s m

/-! ### The frame of a command -/

theorem guarded_wf {s : State} (h : s.cfg.wf = true) (o : Host.Outcome State Fault Refusal) : guarded s o = o := by
  simp [guarded, h]

theorem guarded_illFormed {s : State} (h : s.cfg.wf = false) (o : Host.Outcome State Fault Refusal) :
    guarded s o = .refused .illFormedConfig := by
  simp [guarded, h]

/-- On a well-formed configuration a command always answers a next state (70_reset_and_hazards.md R252, R256). -/
theorem runCommand_wf (p : Action) {s : State} (h : s.cfg.wf = true) :
    runCommand p s = .next (settle (p s.begin)) := guarded_wf h _

/-- If a command answers a next state, the configuration is well formed and that is the state its procedure settles
in. -/
theorem runCommand_next {p : Action} {s t : State} (h : runCommand p s = .next t) :
    s.cfg.wf = true ∧ t = settle (p s.begin) := by
  by_cases hw : s.cfg.wf = true
  · rw [runCommand_wf p hw] at h
    exact ⟨hw, (Host.Outcome.next.inj h).symm⟩
  · simp [runCommand, guarded, hw] at h

@[simp] theorem settle_done (u : Unit) (s : State) : settle (.done u s) = s := rfl

@[simp] theorem settle_raised (x : Raise) (s : State) : settle (.raised x s) = takeRaise x s := rfl

/-- A failure outcome writes the reporting state and the sticky bits and nothing else (60_exceptions.md R215 to
R220). -/
theorem takeRaise_frame (x : Raise) (s : State) :
    takeRaise x s = { s with
      err := (takeRaise x s).err, resultVal := 0, resultFstep := (takeRaise x s).resultFstep
      stkTimeout := (takeRaise x s).stkTimeout, stkIllegal := (takeRaise x s).stkIllegal } := by
  cases x <;> rfl

end Sys2Proof.Machine
end

