-- ==== Sys2Proof/Laws/Step.lean ====
section
/-! SUPPORT. What a step and a command can do: every command is its procedure run in the one frame, and a step that
answers a next state is one of the moves of the outside world. -/

namespace Sys2Proof.Machine

open Sys2Proof

/-- The procedure of each command. -/
def procedureOf : Instr → Action
  | .nop => update id
  | .tbegin => update tuningBegin
  | .probe p idx => recordProbe p idx
  | .ldbl imm16 => update (loadHalf 0 imm16)
  | .ldbh imm16 => update (loadHalf 16 imm16)
  | .tune => tuneProc
  | .settm imm8 => setTiming imm8
  | .drift => update driftProc
  | .hs4ent => hs4entProc
  | .hs4ext => runActions hs4extLines
  | .hwrst => runActions hwrstLines
  | .clkup imm8 => lookUp imm8
  | .mcalen => mcalenProc
  | .mcaldis => mcalDisable 1

theorem exec_eq_runCommand (i : Instr) (s : State) : exec i s = runCommand (procedureOf i) s := by cases i <;> rfl

theorem exec_wf (i : Instr) {s : State} (h : s.cfg.wf = true) :
    exec i s = .next (settle (procedureOf i s.begin)) := by
  rw [exec_eq_runCommand, runCommand_wf _ h]

/-- If a command answers a next state, it is the one its procedure settles in. -/
theorem exec_next {i : Instr} {s t : State} (h : exec i s = .next t) :
    s.cfg.wf = true ∧ t = settle (procedureOf i s.begin) := by
  rw [exec_eq_runCommand] at h
  exact runCommand_next h

/-- A state that every command and the failure outcomes keep a relation to: it is enough that the procedure does. -/
theorem exec_respects {R : State → State → Prop} (trans : ∀ s t u, R s t → R t u → R s u)
    (hbegin : ∀ s, R s s.begin) (hraise : ∀ x s, R s (takeRaise x s)) {i : Instr}
    (h : Respects R (procedureOf i)) {s t : State} (he : exec i s = .next t) : R s t := by
  obtain ⟨_, rfl⟩ := exec_next he
  have hp := trans _ _ _ (hbegin s) (h s.begin)
  cases hq : procedureOf i s.begin with
  | done u v => rwa [hq] at hp
  | raised x v =>
    rw [hq] at hp
    exact trans _ _ _ hp (hraise x v)

/-- On a well-formed configuration a step takes the next move. -/
theorem step_wf {s : State} (h : s.cfg.wf = true) : step s = takeMove s := guarded_wf h _

/-- If a step answers a next state, TWS was idle or the next move was performed. -/
theorem step_next {s t : State} (h : step s = .next t) :
    s.cfg.wf = true ∧ ((s.inbox = [] ∧ t = s) ∨
      ∃ m rest, s.inbox = m :: rest ∧ perform m { s with inbox := rest } = .next t) := by
  by_cases hw : s.cfg.wf = true
  · rw [step_wf hw] at h
    refine ⟨hw, ?_⟩
    cases hi : s.inbox with
    | nil =>
      simp only [takeMove, hi] at h
      exact .inl ⟨rfl, (Host.Outcome.next.inj h).symm⟩
    | cons m rest =>
      simp only [takeMove, hi] at h
      exact .inr ⟨m, rest, rfl, h⟩
  · simp [step, guarded, hw] at h

/-- If a move answers a next state, it was one of these. -/
theorem perform_next {m : Move} {s t : State} (h : perform m s = .next t) :
    (∃ w i, m = .hostWrite 0x00 4 w ∧ decode w = .ok i ∧ exec i s = .next t) ∨
    (∃ w why, m = .hostWrite 0x00 4 w ∧ decode w = .error why ∧ execIllegal s = .next t) ∨
    (∃ offset v, m = .hostWrite offset 4 v ∧ offset ≠ 0 ∧ t = s) ∨
    (∃ offset, m = .hostRead offset 4 ∧ t = { s with readData := portRead offset s }) ∨
    (∃ r v, m = .busWrite r v ∧ t = busWrite r v s) ∨ (∃ r, m = .busRead r ∧ t = busRead r s) ∨
    (m = .powerOn ∧ t = s.powerOn) := by
  cases m with
  | hostWrite offset width value =>
    by_cases ha : accessDefined offset width = true
    · obtain rfl : width = 4 := by
        simp only [accessDefined, Bool.and_eq_true, decide_eq_true_eq] at ha
        exact ha.1
      by_cases h0 : offset = 0
      · subst h0
        simp only [perform, hostWrite, ha, if_true, deliver] at h
        cases hd : decode value with
        | ok i => exact .inl ⟨value, i, rfl, hd, by simpa [hd] using h⟩
        | error why => exact .inr (.inl ⟨value, why, rfl, hd, by simpa [hd] using h⟩)
      · simp only [perform, hostWrite, ha, if_true, h0, if_false] at h
        exact .inr (.inr (.inl ⟨offset, value, rfl, h0, (Host.Outcome.next.inj h).symm⟩))
    · simp [perform, hostWrite, ha] at h
  | hostRead offset width =>
    by_cases ha : accessDefined offset width = true
    · obtain rfl : width = 4 := by
        simp only [accessDefined, Bool.and_eq_true, decide_eq_true_eq] at ha
        exact ha.1
      simp only [perform, hostRead, ha, if_true] at h
      exact .inr (.inr (.inr (.inl ⟨offset, rfl, (Host.Outcome.next.inj h).symm⟩)))
    · simp [perform, hostRead, ha] at h
  | busWrite r v =>
    exact .inr (.inr (.inr (.inr (.inl ⟨r, v, rfl, (Host.Outcome.next.inj h).symm⟩))))
  | busRead r =>
    exact .inr (.inr (.inr (.inr (.inr (.inl ⟨r, rfl, (Host.Outcome.next.inj h).symm⟩)))))
  | powerOn => exact .inr (.inr (.inr (.inr (.inr (.inr ⟨rfl, (Host.Outcome.next.inj h).symm⟩)))))

end Sys2Proof.Machine
end

