-- ==== Sys2Proof/Certificates/Slice0/Obligations.lean ====
section
/-! DEFINITION. The statements for the provers, each from the numbered rules of spec/. A next state is written as the
whole state it is, so a statement of a result is the command's frame as well: every field that is not named keeps its
value. Statements about volatile registers speak of `State.upcoming`, and so hold whatever the free values are. -/

open Sys2Proof Sys2Proof.Machine

/-! ### Encoding -/

/-- Decoding an encoded command gives it back, for every operand value (30_encoding.md R97, R103). -/
def Obligations.DecodeOfEncode : Prop := ∀ i : Instr, decode (encode i) = .ok i

/-- A word has one meaning: it is the encoding of the command it decodes to (R98). -/
def Obligations.EncodeOfDecode : Prop := ∀ (w : Word) (i : Instr), decode w = .ok i → encode i = w

/-- A word is a legal command when, and only when, `word & mask == match` holds for a row of the opcode table, that
row has the command's mnemonic, and no two rows cover one word (R98). -/
def Obligations.LegalWordsAreTableRows : Prop :=
  (∀ w : Word, (∃ i, decode w = .ok i) ↔ ∃ row ∈ opcodeRows, row.covers w = true) ∧
    (∀ (w : Word) (i : Instr), decode w = .ok i →
      ∀ row ∈ opcodeRows, row.covers w = true → row.mnemonic = i.mnemonic) ∧
    ∀ (w : Word) (row row' : OpcodeRow), row ∈ opcodeRows → row' ∈ opcodeRows → row.covers w = true →
      row'.covers w = true → row = row'

/-- Words written out in the spec decode as it says (R97, R103; vectors V30-1 to V30-20). -/
def Obligations.SpecWordsDecode : Prop :=
  decode 0x00000000#32 = .ok .nop ∧ decode 0x10000000#32 = .ok .tbegin ∧
    decode 0x1100010B#32 = .ok (.probe true 11#8) ∧ decode 0x1100000B#32 = .ok (.probe false 11#8) ∧
    decode 0x12007FFE#32 = .ok (.ldbl 0x7FFE#16) ∧ decode 0x20000000#32 = .ok .tune ∧
    decode 0x30000003#32 = .ok (.settm 3#8) ∧ decode 0x42000000#32 = .ok .hwrst ∧
    decode 0x50000005#32 = .ok (.clkup 5#8) ∧ decode 0x52000000#32 = .ok .mcaldis ∧
    decode 0x20000001#32 = .error (.reservedBits 0x20#8) ∧ decode 0x30000104#32 = .error (.reservedBits 0x30#8) ∧
    decode 0x53000000#32 = .error (.unusedOpcode 0x53#8)

/-! ### Steps and the host port -/

/-- R218: a word no row of the opcode table covers sets `err` to 3 and `stk_illegal`, and changes nothing else. -/
def Obligations.IllegalWordOutcome : Prop :=
  ∀ (s : State) (w : Word), s.cfg.wf = true → (¬ ∃ row ∈ opcodeRows, row.covers w = true) →
    deliver w s = .next { s with err := .illegalCmd, stkIllegal := true, resultVal := 0, resultFstep := 0 }

/-- R35: a step in which the host writes a legal command word to CMD is the execution of that command, with the move
taken out of the inbox (the model's inbox, log 4). -/
def Obligations.StepRunsDecodedCommand : Prop :=
  ∀ (s : State) (w : Word) (rest : List Move) (i : Instr), s.cfg.wf = true →
    s.inbox = .hostWrite 0x00 4 w :: rest → decode w = .ok i → step s = exec i { s with inbox := rest }

/-- R13, U10: a device whose configuration is not well formed is refused. That every step is refused, the idle step, host
reads and the power-on reset among them, is the model's reading of R13 (DEDUCED, log 17). -/
def Obligations.IllFormedConfigRefused : Prop :=
  ∀ s : State, s.cfg.wf = false →
    step s = .refused .illFormedConfig ∧ ∀ i : Instr, exec i s = .refused .illFormedConfig

/-- R34, R61: reads of CMD and of unmapped offsets return 0, writes anywhere but to CMD are ignored, and an access
that is not 32 bits wide or not aligned is refused. -/
def Obligations.OtherHostAccesses : Prop :=
  ∀ (s : State) (offset width : Nat) (value : Word) (rest : List Move), s.cfg.wf = true →
    (s.inbox = .hostRead offset width :: rest → width = 4 → offset % 4 = 0 → offset = 0 ∨ 0x18 ≤ offset →
      step s = .next { s with inbox := rest, readData := 0 }) ∧
    (s.inbox = .hostWrite offset width value :: rest → width = 4 → offset % 4 = 0 → offset ≠ 0 →
      step s = .next { s with inbox := rest }) ∧
    ((s.inbox = .hostRead offset width :: rest ∨ s.inbox = .hostWrite offset width value :: rest) →
      width ≠ 4 ∨ offset % 4 ≠ 0 → step s = .refused .hostAccess)

/-- R36: what a read of STATUS returns, field by field, and that it changes nothing else; a write of it is ignored. -/
def Obligations.StatusRead : Prop :=
  ∀ (s : State) (rest : List Move), s.cfg.wf = true →
    (s.inbox = .hostRead 0x04 4 :: rest →
      ∃ v : Word, step s = .next { s with inbox := rest, readData := v } ∧
        v.extractLsb' 0 4 = s.err.code ∧ v.extractLsb' 4 2 = s.driftEv.code ∧
        v.getLsbD 6 = s.stkTimeout ∧ v.getLsbD 7 = s.stkIllegal ∧ v.getLsbD 8 = s.tuningActive ∧
        v.getLsbD 9 = s.needsAdjust ∧ v.getLsbD 10 = s.mcalActive ∧ v.getLsbD 11 = false ∧
        v.extractLsb' 12 2 = s.timing.code ∧ v.extractLsb' 14 2 = 0#2 ∧ v.extractLsb' 16 8 = s.tapSet ∧
        v.extractLsb' 24 8 = 0#8) ∧
    ∀ value, s.inbox = .hostWrite 0x04 4 value :: rest → step s = .next { s with inbox := rest }

/-- R37, R38, R39: what reads of RESULT, WINDOW and BITMAP return, field by field, and that they change nothing
else; a write of one of them is ignored. -/
def Obligations.ResultWindowBitmapReads : Prop :=
  ∀ (s : State) (rest : List Move), s.cfg.wf = true →
    (s.inbox = .hostRead 0x08 4 :: rest →
      ∃ v : Word, step s = .next { s with inbox := rest, readData := v } ∧
        v.extractLsb' 0 8 = s.resultVal ∧ v.extractLsb' 8 8 = s.resultFstep ∧ v.extractLsb' 16 16 = 0#16) ∧
    (s.inbox = .hostRead 0x0C 4 :: rest →
      ∃ v : Word, step s = .next { s with inbox := rest, readData := v } ∧
        v.extractLsb' 0 8 = s.winStart ∧ v.extractLsb' 8 8 = s.winEnd ∧ v.extractLsb' 16 8 = s.winLen ∧
        v.extractLsb' 24 7 = 0#7 ∧ v.getLsbD 31 = s.winValid) ∧
    (s.inbox = .hostRead 0x10 4 :: rest → step s = .next { s with inbox := rest, readData := s.bitmap }) ∧
    ∀ offset value, offset ∈ [0x08, 0x0C, 0x10] → s.inbox = .hostWrite offset 4 value :: rest →
      step s = .next { s with inbox := rest }

/-- R40: what a read of CFG returns, field by field. -/
def Obligations.CfgRead : Prop :=
  ∀ (s : State) (rest : List Move), s.cfg.wf = true → s.inbox = .hostRead 0x14 4 :: rest →
    ∃ v : Word, step s = .next { s with inbox := rest, readData := v } ∧
      (v.extractLsb' 0 5).toNat = s.cfg.n ∧ v.extractLsb' 5 3 = 0#3 ∧ v.getLsbD 8 = s.cfg.fourTapHs400 ∧
      v.getLsbD 9 = s.cfg.hs400Disabled ∧ v.getLsbD 10 = s.cfg.dtranendAltBit ∧ v.getLsbD 11 = s.cfg.manualCalib ∧
      (v.extractLsb' 12 2).toNat = s.cfg.calibOffset ∧ v.getLsbD 14 = s.cfg.calibTable.isSome ∧
      (v.extractLsb' 15 1).toNat = s.cfg.portVariant.val ∧ v.getLsbD 16 = s.cfg.capBusyBit ∧
      v.getLsbD 17 = s.cfg.capHs400Autocorr ∧ v.getLsbD 18 = s.cfg.capHs400DataTracking ∧
      v.getLsbD 19 = s.cfg.tuningEnabled ∧ v.getLsbD 20 = s.cfg.hs400FourTapCheck ∧ v.extractLsb' 21 11 = 0#11

/-! ### Reset, idling, and the collaborators -/

/-- R58, R240: the device of ANY configuration right after the power-on reset. `State.reset` is the device of the
model's own choice of configuration (DESIGN CHOICE, log 1). -/
def Obligations.ResetState : Prop :=
  (∀ c : Config, (State.resetWith c).cfg = c ∧ (State.resetWith c).trace = [] ∧
    (State.resetWith c).powerOn = State.resetWith c ∧ statusWord (State.resetWith c) = 0 ∧
    resultWord (State.resetWith c) = 0 ∧ windowWord (State.resetWith c) = 0 ∧ bitmapWord (State.resetWith c) = 0) ∧
  State.reset = State.resetWith Config.fixture

/-- R240, R241: the power-on reset, at any time between commands, puts every element of the state tuple at zero, the
sticky bits too, touches no target register and not the configuration, and makes no bus transaction. -/
def Obligations.PowerOnReset : Prop :=
  ∀ (s : State) (rest : List Move), s.cfg.wf = true → s.inbox = .powerOn :: rest →
    step s = .next
      { bitmap := 0, tapSet := 0, timing := .other, tuningActive := false, needsAdjust := false, mcalActive := false
        err := .ok, driftEv := .noError, stkTimeout := false, stkIllegal := false, resultVal := 0, resultFstep := 0
        winStart := 0, winEnd := 0, winLen := 0, winValid := false
        cfg := s.cfg, store := s.store, sources := s.sources, trace := s.trace, inbox := rest
        readData := s.readData }

/-- R257: with nothing to do TWS performs no bus access and changes no state. -/
def Obligations.IdleChangesNothing : Prop :=
  ∀ s : State, s.cfg.wf = true → s.inbox = [] → step s = .next s

/-- R69, R74: between commands a collaborator's write of a plain register is what later reads return, its read returns
what the register holds or, for a volatile one, the next draw; neither is an event of TWS. That a collaborator's write of
a volatile register changes nothing in the state is the model's reading (DEDUCED, log 8). -/
def Obligations.CollaboratorAccess : Prop :=
  ∀ (s : State) (rest : List Move), s.cfg.wf = true →
    (∀ (r : PlainReg) (v : Word), s.inbox = .busWrite (.plain r) v :: rest →
      ∃ m : Store, step s = .next { s with inbox := rest, store := m } ∧ m.get r = v ∧
        ∀ q, q ≠ r → m.get q = s.store.get q) ∧
    (∀ (r : VolatileReg) (v : Word), s.inbox = .busWrite (.volatile r) v :: rest →
      step s = .next { s with inbox := rest }) ∧
    (∀ r : PlainReg, s.inbox = .busRead (.plain r) :: rest →
      step s = .next { s with inbox := rest, readData := s.store.get r }) ∧
    ∀ r : VolatileReg, s.inbox = .busRead (.volatile r) :: rest →
      ∃ t : State, step s = .next { t with readData := s.upcoming r 0 } ∧
        t = { s with inbox := rest, sources := t.sources } ∧ (∀ j, t.upcoming r j = s.upcoming r (j + 1)) ∧
        ∀ q, q ≠ r → ∀ j, t.upcoming q j = s.upcoming q j

/-- R62: distinct registers have distinct addresses, for every well-formed configuration; `PLAT_CTRL` has none. -/
def Obligations.AddressesDistinct : Prop :=
  ∀ c : Config, c.wf = true →
    (∀ (r q : Target) (a : Nat), c.addr r = some a → c.addr q = some a → r = q) ∧
      ∀ r : Target, c.addr r = none ↔ r = .plain .platCtrl

/-! ### NOP and the probe bitmap -/

/-- R116: NOP, the all-zero word, writes the reporting state and nothing else. -/
def Obligations.NopResult : Prop :=
  decode 0x00000000#32 = .ok .nop ∧
    ∀ s : State, s.cfg.wf = true → exec .nop s = .next { s with err := .ok, resultVal := 0, resultFstep := 0 }

/-- R141: TBEGIN empties the bitmap and the window copy and opens the cycle; `tap_set` stays; it is accepted whatever
`tuning_enabled` and `tuning_active` are. -/
def Obligations.TbeginResult : Prop :=
  decode 0x10000000#32 = .ok .tbegin ∧
  ∀ s : State, s.cfg.wf = true →
    exec .tbegin s = .next { s with
      bitmap := 0, tuningActive := true, winStart := 0, winEnd := 0, winLen := 0, winValid := false
      err := .ok, resultVal := 0, resultFstep := 0 }

/-- R142: PROBE, its word, and what it does: it writes its bit where `idx < 2N` and is a bad operand otherwise, the
bitmap unchanged. -/
def Obligations.ProbeResult : Prop :=
  ∀ (s : State) (p : Bool) (idx : BitVec 8), s.cfg.wf = true →
    decode (0x11000000#32 ||| (BitVec.ofBool p).setWidth 32 <<< 8 ||| idx.setWidth 32) = .ok (.probe p idx) ∧
    (idx.toNat < 2 * s.cfg.n →
      ∃ b : Word, exec (.probe p idx) s = .next { s with
          bitmap := b, err := .ok, resultVal := 0, resultFstep := 0 } ∧
        ∀ j, j < 32 → b.getLsbD j = if j = idx.toNat then p else s.bitmap.getLsbD j) ∧
    (2 * s.cfg.n ≤ idx.toNat →
      exec (.probe p idx) s = .next { s with
        err := .badOperand, stkIllegal := true, resultVal := 0, resultFstep := 0 })

/-- R143: LDBL, its word, and what it does: it writes the indices below 16 and below `2N`. -/
def Obligations.LdblResult : Prop :=
  ∀ (s : State) (imm16 : BitVec 16), s.cfg.wf = true →
    decode (0x12000000#32 ||| imm16.setWidth 32) = .ok (.ldbl imm16) ∧
    ∃ b : Word, exec (.ldbl imm16) s = .next { s with
        bitmap := b, err := .ok, resultVal := 0, resultFstep := 0 } ∧
      ∀ j, j < 32 → b.getLsbD j = if j < 16 ∧ j < 2 * s.cfg.n then imm16.getLsbD j else s.bitmap.getLsbD j

/-- R144: LDBH, its word, and what it does: it writes the indices from 16 up and below `2N`, so for `N <= 8` it changes
nothing. -/
def Obligations.LdbhResult : Prop :=
  ∀ (s : State) (imm16 : BitVec 16), s.cfg.wf = true →
    decode (0x13000000#32 ||| imm16.setWidth 32) = .ok (.ldbh imm16) ∧
    ∃ b : Word, exec (.ldbh imm16) s = .next { s with
        bitmap := b, err := .ok, resultVal := 0, resultFstep := 0 } ∧
      (∀ j, j < 32 →
        b.getLsbD j = if 16 ≤ j ∧ j < 2 * s.cfg.n then imm16.getLsbD (j - 16) else s.bitmap.getLsbD j) ∧
      (s.cfg.n ≤ 8 → b = s.bitmap)

/-- R102: the two commands `LDBM imm32` stands for load the whole bitmap; the bits from `2N` up stay. -/
def Obligations.LdbmLoadsBitmap : Prop :=
  ∀ (s : State) (imm32 : Word), s.cfg.wf = true →
    ∃ (lo hi : Instr) (t u : State), expandLdbm imm32 = [lo, hi] ∧ exec lo s = .next t ∧ exec hi t = .next u ∧
      ∀ j, j < 32 → u.bitmap.getLsbD j = if j < 2 * s.cfg.n then imm32.getLsbD j else s.bitmap.getLsbD j

/-! ### The window selector -/

/-- R150: Merge keeps a pair of bits only where both are set, leaves the bits past `2N` alone, is idempotent, and never
sets a bit. -/
def Obligations.MergeConfirmsPairs : Prop :=
  ∀ (n : Nat) (b : Word), 1 ≤ n → n ≤ 16 →
    (∀ i, i < n → (merge n b).getLsbD i = (b.getLsbD i && b.getLsbD (i + n)) ∧
      (merge n b).getLsbD (i + n) = (b.getLsbD i && b.getLsbD (i + n))) ∧
    (∀ j, 2 * n ≤ j → (merge n b).getLsbD j = b.getLsbD j) ∧
    merge n (merge n b) = merge n b ∧
    ∀ j, (merge n b).getLsbD j = true → b.getLsbD j = true

/-- R151: the scan returns `(0, 0, 0)` where no bit is set; otherwise a maximal run, no run is longer, and every run as
long starts no earlier. -/
def Obligations.LongestRunEarliest : Prop :=
  ∀ (n : Nat) (m : Word),
    ((∀ j, j < 2 * n → m.getLsbD j = false) → longestRun n m = ⟨0, 0, 0⟩) ∧
    (0 < (longestRun n m).len →
      MaximalRun m (2 * n) (longestRun n m).start (longestRun n m).last ∧
      (longestRun n m).len = (longestRun n m).last - (longestRun n m).start + 1) ∧
    ∀ first last, RunAt m (2 * n) first last →
      last - first + 1 ≤ (longestRun n m).len ∧
      (last - first + 1 = (longestRun n m).len → (longestRun n m).start ≤ first)

/-- R156 (e): in a merged bitmap the selected run starts below `N`, and its length is `2N` or at most `N - 1`. -/
def Obligations.MergedWindowBounds : Prop :=
  ∀ (n : Nat) (b : Word), 1 ≤ n → n ≤ 16 → 0 < (longestRun n (merge n b)).len →
    (longestRun n (merge n b)).start < n ∧
      ((longestRun n (merge n b)).len = 2 * n ∨ (longestRun n (merge n b)).len ≤ n - 1)

/-- R155 with R152, R153, R154: a TUNE whose longest confirmed run has length three or more. -/
def Obligations.TuneSuccess : Prop :=
  ∀ (s : State) (w : TapWindow) (t : Nat), s.cfg.wf = true → s.cfg.tuningEnabled = true →
    w = longestRun s.cfg.n (merge s.cfg.n s.bitmap) → 3 ≤ w.len → t = (w.start + w.last) / 2 % s.cfg.n →
    ∃ hw : Nat, hw = (if s.cfg.fourTapHs400 = true ∧ s.timing = .hs400 then t / 2 else t) ∧
      exec .tune s = .next { s with
        bitmap := merge s.cfg.n s.bitmap, tapSet := BitVec.ofNat 8 t, tuningActive := false
        err := .ok, resultVal := BitVec.ofNat 8 t, resultFstep := 0
        winStart := BitVec.ofNat 8 w.start, winEnd := BitVec.ofNat 8 w.last, winLen := BitVec.ofNat 8 w.len
        winValid := true
        store := { s.store with ctbTapset := BitVec.ofNat 32 hw, ctbRvscntl := s.store.ctbRvscntl ||| 0x1#32 }
        trace := s.trace ++ [.write (.plain .ctbTapset) (BitVec.ofNat 32 hw),
          .read (.plain .ctbRvscntl) s.store.ctbRvscntl,
          .write (.plain .ctbRvscntl) (s.store.ctbRvscntl ||| 0x1#32)] }

/-- R217 with R152, R155: a TUNE whose longest confirmed run is shorter than three leaves the merged bitmap, ends the
cycle, empties the window copy, and makes no bus access. -/
def Obligations.TuneNoStableWindow : Prop :=
  ∀ s : State, s.cfg.wf = true → s.cfg.tuningEnabled = true →
    (longestRun s.cfg.n (merge s.cfg.n s.bitmap)).len < 3 →
    exec .tune s = .next { s with
      bitmap := merge s.cfg.n s.bitmap, tuningActive := false, err := .noStableWindow, resultVal := 0
      resultFstep := 0, winStart := 0, winEnd := 0, winLen := 0, winValid := false }

/-- R57 (c): after a TUNE that was not refused the two trials of every tap agree. -/
def Obligations.TuneLeavesMirroredBitmap : Prop :=
  ∀ s t : State, exec .tune s = .next t → s.cfg.tuningEnabled = true → Mirrored t.cfg.n t.bitmap

/-! ### The retune monitor -/

/-- R165: SETTM, its word, and what it does: it sets the mode its operand codes, and is a bad operand above 3, `timing`
unchanged. -/
def Obligations.SettmResult : Prop :=
  ∀ (s : State) (imm8 : BitVec 8), s.cfg.wf = true →
    decode (0x30000000#32 ||| imm8.setWidth 32) = .ok (.settm imm8) ∧
    (imm8.toNat ≤ 3 →
      ∃ m : Timing, m.code.toNat = imm8.toNat ∧
        exec (.settm imm8) s = .next { s with timing := m, err := .ok, resultVal := 0, resultFstep := 0 }) ∧
    (3 < imm8.toNat →
      exec (.settm imm8) s = .next { s with
        err := .badOperand, stkIllegal := true, resultVal := 0, resultFstep := 0 })

/-- R166: when a drift check runs, and what a gated-out DRIFT does: no register access, NoError. -/
def Obligations.DriftGate : Prop :=
  (∀ s : State, driftGate s = true ↔
    s.cfg.tuningEnabled = true ∧ s.tuningActive = false ∧
      (s.timing = .sdr104 ∨ s.timing = .hs200 ∨
        (s.timing = .hs400 ∧ (s.cfg.fourTapHs400 = false ∨ s.cfg.hs400FourTapCheck = true)))) ∧
  ∀ s : State, s.cfg.wf = true → driftGate s = false →
    exec .drift s = .next { s with driftEv := .noError, err := .ok, resultVal := s.tapSet, resultFstep := 0 }

/-- R167, R168, R172: the auto-correction branch, taken when `RVSEN` reads 1: RVSERR is reported and cleared, the other
flags are written back as read, the tap is not touched. `q` is the next draw of `CTB_RVSREQ`. -/
def Obligations.DriftAutoBranch : Prop :=
  ∀ (s : State) (q : Word), s.cfg.wf = true → driftGate s = true → s.store.ctbRvscntl.getLsbD 0 = true →
    q = s.upcoming .ctbRvsreq 0 →
    exec .drift s = .next { s with
      driftEv := if q.getLsbD 2 then .retuneRequired else .noError
      err := .ok, resultVal := s.tapSet, resultFstep := 0
      sources := { s.sources with ctbRvsreq := s.sources.ctbRvsreq.advanceBy 1 }
      trace := s.trace ++ [.read (.plain .ctbRvscntl) s.store.ctbRvscntl, .read (.volatile .ctbRvsreq) q] ++
        listIf (q.getLsbD 2) (.write (.volatile .ctbRvsreq) (q &&& ~~~ 0x4#32)) }

/-- R169, R171, R172, R173: the manual branch, taken when `RVSEN` reads 0: the event from the command-comparison flags
in the HS400 special case (`v`, the next draw of `CTB_SMPCMP`) and from the request register otherwise (`q`), the tap
moved by one with wrap-around on TapUp and TapDown, and the tap register written, halved under the 4-tap quirk. -/
def Obligations.DriftManualBranch : Prop :=
  ∀ (s : State) (q v : Word) (special moved : Bool) (ev : DriftEvent) (tap hw : Nat), s.cfg.wf = true →
    driftGate s = true → s.store.ctbRvscntl.getLsbD 0 = false →
    q = s.upcoming .ctbRvsreq 0 → v = s.upcoming .ctbSmpcmp 0 →
    (special = true ↔ s.timing = .hs400 ∧ s.cfg.capHs400DataTracking = false) →
    ev = (if special then
        if v.getLsbD 24 = true ∧ v.getLsbD 8 = true then .retuneRequired
        else if v.getLsbD 24 = true then .tapUp
        else if v.getLsbD 8 = true then .tapDown
        else .noError
      else
        if q.getLsbD 2 = true then .retuneRequired
        else if q.getLsbD 1 = true then .tapUp
        else if q.getLsbD 0 = true then .tapDown
        else .noError) →
    (moved = true ↔ ev = .tapUp ∨ ev = .tapDown) →
    tap = (if ev = .tapUp then (s.tapSet.toNat + 1) % s.cfg.n else (s.tapSet.toNat + s.cfg.n - 1) % s.cfg.n) →
    hw = (if s.cfg.fourTapHs400 = true then tap / 2 else tap) →
    exec .drift s = .next { s with
      driftEv := ev, err := .ok, resultFstep := 0
      tapSet := if moved then BitVec.ofNat 8 tap else s.tapSet
      resultVal := if moved then BitVec.ofNat 8 tap else s.tapSet
      store := if moved then { s.store with ctbTapset := BitVec.ofNat 32 hw } else s.store
      sources := { s.sources with
        ctbRvsreq := s.sources.ctbRvsreq.advanceBy 1
        ctbSmpcmp := if special then s.sources.ctbSmpcmp.advanceBy 1 else s.sources.ctbSmpcmp }
      trace := s.trace ++ [.read (.plain .ctbRvscntl) s.store.ctbRvscntl, .read (.volatile .ctbRvsreq) q] ++
        listIf special (.read (.volatile .ctbSmpcmp) v) ++
        listIf moved (.write (.plain .ctbTapset) (BitVec.ofNat 32 hw)) }

/-- "4-tap halving" (95_test_vectors.md S7; R154, R171): with the 4-tap quirk and the timing mode HS400, TUNE and DRIFT
leave the tap register as it was or at half the tap. -/
def Obligations.FourTapHalving : Prop :=
  ∀ (s t : State) (i : Instr), i = .tune ∨ i = .drift → s.cfg.fourTapHs400 = true → s.timing = .hs400 →
    exec i s = .next t →
    (t.store.ctbTapset = s.store.ctbTapset ∧ t.tapSet = s.tapSet) ∨
      t.store.ctbTapset = BitVec.ofNat 32 (t.tapSet.toNat / 2)

/-! ### The protected write -/

/-- R111: the idle test. -/
def Obligations.IdleTest : Prop :=
  ∀ (c : Config) (v : Word),
    (c.capBusyBit = true → (idle c v = true ↔ v.getLsbD 14 = false)) ∧
      (c.capBusyBit = false → (idle c v = true ↔ v.getLsbD 13 = true))

/-- R110, on success: the write is made, then polls up to and with the first one that reads idle, which is one of the
first `POLL_LIMIT`. -/
def Obligations.ProtectedWriteSucceeds : Prop :=
  ∀ (s : State) (r : PlainReg) (v : Word) (k m : Nat), m < s.cfg.pollLimit → s.BusyFor m →
    idle s.cfg (s.upcoming .gcbStatus m) = true →
    writeProtected r v k s = .done () { s with
      store := s.store.put r v
      sources := { s.sources with gcbStatus := s.sources.gcbStatus.advanceBy (m + 1) }
      trace := s.trace ++ .write (.plain r) v :: s.pollEvents (m + 1) }

/-- R110, R113, on failure: the write is made, `POLL_LIMIT` polls read busy, and the procedure raises `IdleTimeout` with
the label of the write. -/
def Obligations.ProtectedWriteTimesOut : Prop :=
  ∀ (s : State) (r : PlainReg) (v : Word) (k : Nat), s.BusyFor s.cfg.pollLimit →
    writeProtected r v k s = .raised (.idleTimeout k) { s with
      store := s.store.put r v
      sources := { s.sources with gcbStatus := s.sources.gcbStatus.advanceBy s.cfg.pollLimit }
      trace := s.trace ++ .write (.plain r) v :: s.pollEvents s.cfg.pollLimit }

/-! ### Calibration -/

/-- R126: CLKUP, its word, and what it does: without a table it is refused; with one it returns the entry of the selected
variant at the low five bits of its operand. -/
def Obligations.ClkupResult : Prop :=
  ∀ (s : State) (imm8 : BitVec 8), s.cfg.wf = true →
    decode (0x50000000#32 ||| imm8.setWidth 32) = .ok (.clkup imm8) ∧
    (s.cfg.calibTable = none →
      exec (.clkup imm8) s = .next { s with err := .disabled, resultVal := 0, resultFstep := 0 }) ∧
    ∀ tab : CalibTable, s.cfg.calibTable = some tab →
      ∃ code : Nat, code ≤ 31 ∧
        some code = (if s.cfg.portVariant.val = 0 then tab.variant0 else tab.variant1)[(imm8 &&& 0x1F#8).toNat]? ∧
        exec (.clkup imm8) s = .next { s with err := .ok, resultVal := BitVec.ofNat 8 code, resultFstep := 0 }

/-- R127, R128: MCALEN with a table, its three writes settling after `a`, `b` and `c` busy polls. `raw` is the next draw
of `CTB_CALCODE`, masked to five bits before the lookup. -/
def Obligations.McalenSuccess : Prop :=
  ∀ (s : State) (tab : CalibTable) (raw : Word) (a b c : Nat), s.cfg.wf = true → s.cfg.calibTable = some tab →
    s.Settles 0 [a, b, c] → raw = s.upcoming .ctbCalcode 0 →
    ∃ code : Nat, code ≤ 31 ∧
      some code = (if s.cfg.portVariant.val = 0 then tab.variant0 else tab.variant1)[(raw &&& 0x1F#32).toNat]? ∧
      exec .mcalen s = .next { s with
        mcalActive := true, needsAdjust := false
        err := .ok, resultVal := 0x80#8 ||| BitVec.ofNat 8 code, resultFstep := 0
        store := { s.store with
          ctbWpunlock := s.cfg.wpUnlockCode, ctbMancal := 0x80#32 ||| BitVec.ofNat 32 code
          ctbCalofs := BitVec.ofNat 32 s.cfg.calibOffset }
        sources := { s.sources with
          gcbStatus := s.sources.gcbStatus.advanceBy (a + b + c + 3)
          ctbCalcode := s.sources.ctbCalcode.advanceBy 1 }
        trace := s.trace ++
          .write (.plain .ctbWpunlock) s.cfg.wpUnlockCode :: s.pollEventsFrom 0 (a + 1) ++
          .read (.volatile .ctbCalcode) raw ::
          .write (.plain .ctbMancal) (0x80#32 ||| BitVec.ofNat 32 code) :: s.pollEventsFrom (a + 1) (b + 1) ++
          .write (.plain .ctbCalofs) (BitVec.ofNat 32 s.cfg.calibOffset) :: s.pollEventsFrom (a + b + 2) (c + 1) }

/-- R127, R128, R216: MCALEN with a table whose step `k` times out, the earlier steps settling after `polls` busy reads:
the writes up to that of step `k` have happened, none later, and the two flags keep their values. -/
def Obligations.McalenTimeout : Prop :=
  ∀ (s : State) (tab : CalibTable) (k : Nat) (polls : List Nat), s.cfg.wf = true → s.cfg.calibTable = some tab →
    1 ≤ k → k ≤ 3 → polls.length = k - 1 → s.Settles 0 polls → s.BusyFrom (drawsOf polls) s.cfg.pollLimit →
    ∃ (code : Nat) (t : State), exec .mcalen s = .next t ∧
      some code = (if s.cfg.portVariant.val = 0 then tab.variant0 else tab.variant1)[
        (s.upcoming .ctbCalcode 0 &&& 0x1F#32).toNat]? ∧
      t = { s with
        err := .idleTimeout, resultVal := 0, resultFstep := BitVec.ofNat 8 k, stkTimeout := true
        store := { s.store with
          ctbWpunlock := s.cfg.wpUnlockCode
          ctbMancal := if 2 ≤ k then 0x80#32 ||| BitVec.ofNat 32 code else s.store.ctbMancal
          ctbCalofs := if 3 ≤ k then BitVec.ofNat 32 s.cfg.calibOffset else s.store.ctbCalofs }
        sources := { s.sources with
          gcbStatus := s.sources.gcbStatus.advanceBy (drawsOf polls + s.cfg.pollLimit)
          ctbCalcode := if 2 ≤ k then s.sources.ctbCalcode.advanceBy 1 else s.sources.ctbCalcode }
        trace := t.trace } ∧
      writesOf t.trace = writesOf s.trace ++ [.write (.plain .ctbWpunlock) s.cfg.wpUnlockCode] ++
        listIf (decide (2 ≤ k)) (.write (.plain .ctbMancal) (0x80#32 ||| BitVec.ofNat 32 code)) ++
        listIf (decide (3 ≤ k)) (.write (.plain .ctbCalofs) (BitVec.ofNat 32 s.cfg.calibOffset))

/-- R129, R130: MCALDIS, its three writes settling after `a`, `b` and `c` busy polls, whether or not `mcal_active` is
set. -/
def Obligations.McaldisSuccess : Prop :=
  ∀ (s : State) (a b c : Nat), s.cfg.wf = true → s.Settles 0 [a, b, c] →
    exec .mcaldis s = .next { s with
      mcalActive := false, needsAdjust := false, err := .ok, resultVal := 0, resultFstep := 0
      store := { s.store with ctbWpunlock := s.cfg.wpUnlockCode, ctbMancal := 0, ctbCalofs := 0 }
      sources := { s.sources with gcbStatus := s.sources.gcbStatus.advanceBy (a + b + c + 3) }
      trace := s.trace ++
        .write (.plain .ctbWpunlock) s.cfg.wpUnlockCode :: s.pollEventsFrom 0 (a + 1) ++
        .write (.plain .ctbMancal) 0 :: s.pollEventsFrom (a + 1) (b + 1) ++
        .write (.plain .ctbCalofs) 0 :: s.pollEventsFrom (a + b + 2) (c + 1) }

/-- R129, R130, R216: MCALDIS whose step `k` times out, the earlier steps settling after `polls` busy reads. -/
def Obligations.McaldisTimeout : Prop :=
  ∀ (s : State) (k : Nat) (polls : List Nat), s.cfg.wf = true → 1 ≤ k → k ≤ 3 → polls.length = k - 1 →
    s.Settles 0 polls → s.BusyFrom (drawsOf polls) s.cfg.pollLimit →
    ∃ t : State, exec .mcaldis s = .next t ∧
      t = { s with
        err := .idleTimeout, resultVal := 0, resultFstep := BitVec.ofNat 8 k, stkTimeout := true
        store := { s.store with
          ctbWpunlock := s.cfg.wpUnlockCode
          ctbMancal := if 2 ≤ k then 0 else s.store.ctbMancal
          ctbCalofs := if 3 ≤ k then 0 else s.store.ctbCalofs }
        sources := { s.sources with gcbStatus := s.sources.gcbStatus.advanceBy (drawsOf polls + s.cfg.pollLimit) }
        trace := t.trace } ∧
      writesOf t.trace = writesOf s.trace ++ [.write (.plain .ctbWpunlock) s.cfg.wpUnlockCode] ++
        listIf (decide (2 ≤ k)) (.write (.plain .ctbMancal) 0) ++
        listIf (decide (3 ≤ k)) (.write (.plain .ctbCalofs) 0)

/-! ### The HS400 sequences -/

/-- R186: HS4ENT on a device whose HS400 is not disabled, its protected writes (`hs4entScript`) settling after `polls` busy
reads: the registers it leaves, every event in its order, the writes spelt out, and the flags. `manual` says that the
calibrator runs, with the code it writes. -/
def Obligations.Hs4entSuccess : Prop :=
  ∀ (s : State) (manual : Option Word) (polls : List Nat), s.cfg.wf = true → s.cfg.hs400Disabled = false →
    polls.length = (hs4entScript s).length → s.Settles 0 polls →
    manual = (if s.cfg.manualCalib = true then
        s.cfg.calibTable.map fun tab => 0x80#32 ||| BitVec.ofNat 32
          ((if s.cfg.portVariant.val = 0 then tab.variant0 else tab.variant1).toList.getD
            (s.upcoming .ctbCalcode 0 &&& 0x1F#32).toNat 0)
      else none) →
    ∃ t : State, exec .hs4ent s = .next t ∧
      t = { s with
        needsAdjust := s.cfg.manualCalib && manual.isNone, mcalActive := s.mcalActive || manual.isSome
        err := .ok, resultVal := 0, resultFstep := 0
        store := {
          gcbClkctl := s.store.gcbClkctl ||| 0x100#32
          gcbIfmode := s.store.gcbIfmode ||| 0x1#32
          ctbTapcfg := if s.cfg.fourTapHs400 then (s.store.ctbTapcfg &&& ~~~ 0xFF#32) ||| BitVec.ofNat 32 (s.cfg.n / 2)
            else s.store.ctbTapcfg
          ctbTapset := if s.cfg.fourTapHs400 then BitVec.ofNat 32 (s.tapSet.toNat / 2) else s.store.ctbTapset
          ctbTappos := s.cfg.tapposHs400
          ctbRvscntl := if s.cfg.capHs400Autocorr then s.store.ctbRvscntl else s.store.ctbRvscntl &&& ~~~ 0x1#32
          ctbAdjctl := s.store.ctbAdjctl ||| 0x3#32
          ctbWpunlock := if manual.isSome then s.cfg.wpUnlockCode else s.store.ctbWpunlock
          ctbMancal := manual.getD s.store.ctbMancal
          ctbCalofs := if manual.isSome then BitVec.ofNat 32 s.cfg.calibOffset else s.store.ctbCalofs
          platCtrl := s.cfg.platHs400On }
        sources := { s.sources with
          gcbStatus := s.sources.gcbStatus.advanceBy (drawsOf polls)
          ctbCalcode := if manual.isSome then s.sources.ctbCalcode.advanceBy 1 else s.sources.ctbCalcode }
        trace := s.trace ++ .plat s.cfg.platHs400On :: s.scriptEvents 0 (hs4entScript s) polls } ∧
      writesOf t.trace = writesOf s.trace ++ [
          .plat s.cfg.platHs400On,
          .write (.plain .gcbClkctl) (s.store.gcbClkctl &&& ~~~ 0x100#32),
          .write (.plain .gcbIfmode) (s.store.gcbIfmode ||| 0x1#32),
          .write (.plain .ctbTappos) s.cfg.tapposHs400] ++
        listIf (!s.cfg.capHs400Autocorr) (.write (.plain .ctbRvscntl) (s.store.ctbRvscntl &&& ~~~ 0x1#32)) ++
        [.write (.plain .ctbAdjctl) (s.store.ctbAdjctl ||| 0x3#32)] ++
        listIf s.cfg.fourTapHs400
          (.write (.plain .ctbTapcfg) ((s.store.ctbTapcfg &&& ~~~ 0xFF#32) ||| BitVec.ofNat 32 (s.cfg.n / 2))) ++
        listIf s.cfg.fourTapHs400 (.write (.plain .ctbTapset) (BitVec.ofNat 32 (s.tapSet.toNat / 2))) ++
        [.write (.plain .gcbClkctl) (s.store.gcbClkctl ||| 0x100#32)] ++
        listIf manual.isSome (.write (.plain .ctbWpunlock) s.cfg.wpUnlockCode) ++
        manual.toList.map (BusEvent.write (.plain .ctbMancal)) ++
        listIf manual.isSome (.write (.plain .ctbCalofs) (BitVec.ofNat 32 s.cfg.calibOffset))

/-- R187: HS4EXT, its protected writes (`hs4extScript`) settling after `polls` busy reads: the registers it leaves, every
event in its order, the writes spelt out, and the flags, which change only where manual calibration was active. -/
def Obligations.Hs4extSuccess : Prop :=
  ∀ (s : State) (polls : List Nat), s.cfg.wf = true → polls.length = (hs4extScript s).length → s.Settles 0 polls →
    ∃ t : State, exec .hs4ext s = .next t ∧
      t = { s with
        mcalActive := false, needsAdjust := s.needsAdjust && !s.mcalActive
        err := .ok, resultVal := 0, resultFstep := 0
        store := {
          gcbClkctl := s.store.gcbClkctl ||| 0x100#32
          gcbIfmode := s.store.gcbIfmode &&& ~~~ 0x1#32
          ctbTapcfg := if s.cfg.fourTapHs400 then (s.store.ctbTapcfg &&& ~~~ 0xFF#32) ||| BitVec.ofNat 32 s.cfg.n
            else s.store.ctbTapcfg
          ctbTapset := if s.cfg.fourTapHs400 then BitVec.ofNat 32 s.tapSet.toNat else s.store.ctbTapset
          ctbTappos := s.cfg.tapposDefault
          ctbRvscntl := if s.cfg.capHs400Autocorr then s.store.ctbRvscntl else s.store.ctbRvscntl ||| 0x1#32
          ctbAdjctl := s.store.ctbAdjctl &&& ~~~ 0x3#32
          ctbWpunlock := if s.mcalActive then s.cfg.wpUnlockCode else s.store.ctbWpunlock
          ctbMancal := if s.mcalActive then 0 else s.store.ctbMancal
          ctbCalofs := if s.mcalActive then 0 else s.store.ctbCalofs
          platCtrl := s.cfg.platHs400Off }
        sources := { s.sources with gcbStatus := s.sources.gcbStatus.advanceBy (drawsOf polls) }
        trace := s.trace ++ s.scriptEvents 0 (hs4extScript s) polls ++ [.plat s.cfg.platHs400Off] } ∧
      writesOf t.trace = writesOf s.trace ++
        listIf s.mcalActive (.write (.plain .ctbWpunlock) s.cfg.wpUnlockCode) ++
        listIf s.mcalActive (.write (.plain .ctbMancal) 0) ++ listIf s.mcalActive (.write (.plain .ctbCalofs) 0) ++
        [.write (.plain .gcbClkctl) (s.store.gcbClkctl &&& ~~~ 0x100#32)] ++
        listIf s.cfg.fourTapHs400
          (.write (.plain .ctbTapcfg) ((s.store.ctbTapcfg &&& ~~~ 0xFF#32) ||| BitVec.ofNat 32 s.cfg.n)) ++
        listIf s.cfg.fourTapHs400 (.write (.plain .ctbTapset) (BitVec.ofNat 32 s.tapSet.toNat)) ++
        [.write (.plain .ctbAdjctl) (s.store.ctbAdjctl &&& ~~~ 0x3#32)] ++
        listIf (!s.cfg.capHs400Autocorr) (.write (.plain .ctbRvscntl) (s.store.ctbRvscntl ||| 0x1#32)) ++
        [.write (.plain .ctbTappos) s.cfg.tapposDefault,
          .write (.plain .gcbIfmode) (s.store.gcbIfmode &&& ~~~ 0x1#32),
          .write (.plain .gcbClkctl) (s.store.gcbClkctl ||| 0x100#32),
          .plat s.cfg.platHs400Off]

/-- R188: HWRST, its protected writes (`hwrstScript`) settling after `polls` busy reads: the target registers at the
pre-tuning baseline, every event in its order, the writes spelt out, and the internal state at zero but for `timing` and
the sticky bits. -/
def Obligations.HwrstSuccess : Prop :=
  ∀ (s : State) (polls : List Nat), s.cfg.wf = true → polls.length = (hwrstScript s).length → s.Settles 0 polls →
    ∃ t : State, exec .hwrst s = .next t ∧
      t = { s with
        bitmap := 0, tapSet := 0, tuningActive := false, needsAdjust := false, mcalActive := false
        driftEv := .noError, winStart := 0, winEnd := 0, winLen := 0, winValid := false
        err := .ok, resultVal := 0, resultFstep := 0
        store := {
          gcbClkctl := s.store.gcbClkctl ||| 0x100#32
          gcbIfmode := s.store.gcbIfmode &&& ~~~ 0x1#32
          ctbTapcfg := if s.cfg.fourTapHs400 then (s.store.ctbTapcfg &&& ~~~ 0xFF#32) ||| BitVec.ofNat 32 s.cfg.n
            else s.store.ctbTapcfg
          ctbTapset := 0
          ctbTappos := s.cfg.tapposDefault
          ctbRvscntl := s.store.ctbRvscntl &&& ~~~ 0x1#32
          ctbAdjctl := s.store.ctbAdjctl &&& ~~~ 0x3#32
          ctbWpunlock := if s.mcalActive then s.cfg.wpUnlockCode else s.store.ctbWpunlock
          ctbMancal := if s.mcalActive then 0 else s.store.ctbMancal
          ctbCalofs := if s.mcalActive then 0 else s.store.ctbCalofs
          platCtrl := s.store.platCtrl }
        sources := { s.sources with gcbStatus := s.sources.gcbStatus.advanceBy (drawsOf polls) }
        trace := s.trace ++ s.scriptEvents 0 (hwrstScript s) polls } ∧
      writesOf t.trace = writesOf s.trace ++
        listIf s.mcalActive (.write (.plain .ctbWpunlock) s.cfg.wpUnlockCode) ++
        listIf s.mcalActive (.write (.plain .ctbMancal) 0) ++ listIf s.mcalActive (.write (.plain .ctbCalofs) 0) ++
        [.write (.plain .gcbClkctl) (s.store.gcbClkctl &&& ~~~ 0x100#32)] ++
        listIf s.cfg.fourTapHs400
          (.write (.plain .ctbTapcfg) ((s.store.ctbTapcfg &&& ~~~ 0xFF#32) ||| BitVec.ofNat 32 s.cfg.n)) ++
        [.write (.plain .ctbTapset) 0,
          .write (.plain .ctbAdjctl) (s.store.ctbAdjctl &&& ~~~ 0x3#32),
          .write (.plain .ctbRvscntl) (s.store.ctbRvscntl &&& ~~~ 0x1#32),
          .write (.plain .ctbTappos) s.cfg.tapposDefault,
          .write (.plain .gcbIfmode) (s.store.gcbIfmode &&& ~~~ 0x1#32),
          .write (.plain .gcbClkctl) (s.store.gcbClkctl ||| 0x100#32)]

/-- R189, R216, R186 to R188: a command that ends with E_IDLE_TIMEOUT reports the label of one of its protected writes,
of that one only; the writes of the earlier steps and the write of that step, with its own value, have happened, no later
one has, and that write is the last of the trace and what its register holds. The label names the register of R189's
table. -/
def Obligations.TimeoutNamesLastWrite : Prop :=
  ∀ (s t : State) (i : Instr), exec i s = .next t → t.err = .idleTimeout →
    ∃ (done : List ProtectedStep) (last : ProtectedStep) (left : List ProtectedStep),
      scriptOf i s = done ++ last :: left ∧ (∀ x ∈ done, x.label < last.label) ∧ (∀ x ∈ left, last.label < x.label) ∧
      t.resultFstep.toNat = last.label ∧ stepRegister i last.label = some last.reg ∧
      writesOf t.trace = writesOf s.trace ++ openingOf i s ++ (done ++ [last]).map ProtectedStep.event ∧
      t.store = stored (done ++ [last]) (openedStore i s) ∧
      lastWrite t.trace = some (.write (.plain last.reg) last.value) ∧ t.store.get last.reg = last.value

/-- R249: after a timeout of HS4ENT at `k <= 7`, or of HS4EXT or HWRST at `4 <= k <= 10`, the sampling clock is
paused. -/
def Obligations.TimeoutLeavesClockPaused : Prop :=
  ∀ (s t : State) (i : Instr), exec i s = .next t → t.err = .idleTimeout →
    (i = .hs4ent ∧ t.resultFstep.toNat ≤ 7) ∨
      ((i = .hs4ext ∨ i = .hwrst) ∧ 4 ≤ t.resultFstep.toNat ∧ t.resultFstep.toNat ≤ 10) →
    t.store.gcbClkctl.getLsbD 8 = false

/-- R188, R216: a HWRST that times out performs none of its internal resets; what McalDisable did on its own completion,
at step 3, stays done. -/
def Obligations.HwrstTimeoutKeepsState : Prop :=
  ∀ s t : State, exec .hwrst s = .next t → t.err = .idleTimeout →
    t.bitmap = s.bitmap ∧ t.tapSet = s.tapSet ∧ t.tuningActive = s.tuningActive ∧ t.driftEv = s.driftEv ∧
      t.winStart = s.winStart ∧ t.winEnd = s.winEnd ∧ t.winLen = s.winLen ∧ t.winValid = s.winValid ∧
      t.timing = s.timing ∧ t.mcalActive = (s.mcalActive && decide (t.resultFstep.toNat ≤ 3)) ∧
      t.needsAdjust = (s.needsAdjust && (decide (t.resultFstep.toNat ≤ 3) || !s.mcalActive))

/-- R191 (b): HS4ENT and then HS4EXT, no timeout, with `cap_hs400_autocorr` false or `RVSEN` set before, restore the
named fields, whatever they were, and preserve the bits outside them. -/
def Obligations.EnterThenExitRestores : Prop :=
  ∀ s t u : State, exec .hs4ent s = .next t → t.err = .ok → exec .hs4ext t = .next u → u.err = .ok →
    s.cfg.capHs400Autocorr = false ∨ s.store.ctbRvscntl.getLsbD 0 = true →
    u.store.gcbClkctl = s.store.gcbClkctl ||| 0x100#32 ∧
      u.store.gcbIfmode = s.store.gcbIfmode &&& ~~~ 0x1#32 ∧
      u.store.ctbAdjctl = s.store.ctbAdjctl &&& ~~~ 0x3#32 ∧
      u.store.ctbRvscntl = s.store.ctbRvscntl ||| 0x1#32 ∧
      (s.cfg.fourTapHs400 = true →
        u.store.ctbTapcfg = (s.store.ctbTapcfg &&& ~~~ 0xFF#32) ||| BitVec.ofNat 32 s.cfg.n) ∧
      (s.cfg.fourTapHs400 = false → u.store.ctbTapcfg = s.store.ctbTapcfg)

/-! ### How commands end -/

/-- R220: the three commands a configuration rules out end with E_DISABLED and nothing else changed; a DRIFT with tuning
disabled reports NoError, and MCALEN without a table is a no-op. -/
def Obligations.DisabledOutcomes : Prop :=
  ∀ s : State, s.cfg.wf = true →
    (s.cfg.tuningEnabled = false →
      exec .tune s = .next { s with err := .disabled, resultVal := 0, resultFstep := 0 }) ∧
    (s.cfg.hs400Disabled = true →
      exec .hs4ent s = .next { s with err := .disabled, resultVal := 0, resultFstep := 0 }) ∧
    (s.cfg.calibTable = none → ∀ imm8,
      exec (.clkup imm8) s = .next { s with err := .disabled, resultVal := 0, resultFstep := 0 }) ∧
    (s.cfg.tuningEnabled = false →
      exec .drift s = .next { s with driftEv := .noError, err := .ok, resultVal := s.tapSet, resultFstep := 0 }) ∧
    (s.cfg.calibTable = none →
      exec .mcalen s = .next { s with err := .ok, resultVal := 0, resultFstep := 0 })

/-- R215, R224: how a command can end: which outcomes which command raises, `result_fstep` only after a timeout, no
`result_val` after a failure, and none but for TUNE, DRIFT, CLKUP and MCALEN. -/
def Obligations.CommandEndings : Prop :=
  ∀ (s t : State) (i : Instr), exec i s = .next t →
    (t.err ≠ .idleTimeout → t.resultFstep = 0) ∧ (t.err ≠ .ok → t.resultVal = 0) ∧
    (t.resultVal ≠ 0 → i = .tune ∨ i = .drift ∨ (∃ x, i = .clkup x) ∨ i = .mcalen) ∧
    (t.err = .noStableWindow → i = .tune) ∧
    (t.err = .idleTimeout → i = .mcalen ∨ i = .mcaldis ∨ i = .hs4ent ∨ i = .hs4ext ∨ i = .hwrst) ∧
    t.err ≠ .illegalCmd ∧
    (t.err = .badOperand ↔ i.wellFormed s.cfg.n = false) ∧
    (t.err = .disabled → i = .tune ∨ i = .hs4ent ∨ ∃ x, i = .clkup x)

/-- R223: exactly which outcomes set the sticky bits; no command clears them, an illegal word neither; only the power-on
reset does. -/
def Obligations.StickyBits : Prop :=
  (∀ (s t : State) (i : Instr), exec i s = .next t →
    (t.stkTimeout = true ↔ s.stkTimeout = true ∨ t.err = .idleTimeout) ∧
    (t.stkIllegal = true ↔ s.stkIllegal = true ∨ t.err = .badOperand)) ∧
  (∀ (s t : State) (w : Word) (why : IllegalWord), decode w = .error why → deliver w s = .next t →
    t.stkTimeout = s.stkTimeout ∧ t.stkIllegal = true) ∧
  ∀ s t : State, step s = .next t →
    (s.stkTimeout = true ∧ t.stkTimeout = false) ∨ (s.stkIllegal = true ∧ t.stkIllegal = false) →
    ∃ rest, s.inbox = .powerOn :: rest

/-- R21 to R26, R28, R31: the commands that write each element of the state tuple; every other command leaves it. -/
def Obligations.WritersOfState : Prop :=
  ∀ (s t : State) (i : Instr), exec i s = .next t →
    (i.mnemonic ∉ [.tbegin, .probe, .ldbl, .ldbh, .tune, .hwrst] → t.bitmap = s.bitmap) ∧
    (i.mnemonic ∉ [.tune, .drift, .hwrst] → t.tapSet = s.tapSet) ∧
    (i.mnemonic ≠ .settm → t.timing = s.timing) ∧
    (i.mnemonic ∉ [.tbegin, .tune, .hwrst] → t.tuningActive = s.tuningActive) ∧
    (i.mnemonic ∉ [.hs4ent, .mcalen, .mcaldis, .hs4ext, .hwrst] → t.needsAdjust = s.needsAdjust) ∧
    (i.mnemonic ∉ [.hs4ent, .mcalen, .mcaldis, .hs4ext, .hwrst] → t.mcalActive = s.mcalActive) ∧
    (i.mnemonic ∉ [.drift, .hwrst] → t.driftEv = s.driftEv) ∧
    (i.mnemonic ∉ [.tbegin, .tune, .hwrst] → t.winStart = s.winStart ∧ t.winEnd = s.winEnd ∧
      t.winLen = s.winLen ∧ t.winValid = s.winValid) ∧
    t.inbox = s.inbox ∧ t.readData = s.readData

/-- R77: which registers a command reaches: its events are accesses of the table of R77, and every register that is not
written in that table keeps its value. -/
def Obligations.RegistersReached : Prop :=
  ∀ (s t : State) (i : Instr), exec i s = .next t →
    (∃ events, t.trace = s.trace ++ events ∧ ∀ e ∈ events, e.allowedFor i = true) ∧
    (∀ r : PlainReg, .plain r ∉ mayWrite i → t.store.get r = s.store.get r) ∧
    ∀ r : VolatileReg, .volatile r ∉ mayRead i → t.sources.get r = s.sources.get r

/-! ### The whole machine -/

/-- R57 (f): no step changes the configuration. -/
def Obligations.ConfigNeverChanges : Prop := ∀ s t : State, step s = .next t → t.cfg = s.cfg

/-- R57 (a), (b), (d) with R13: the invariant of the machine is kept by every step, from every state that has it. -/
def Obligations.StepKeepsInvariant : Prop := ∀ s t : State, s.Inv → step s = .next t → t.Inv

/-- R57, R58: every device of a well-formed configuration has the invariant right after reset, and so has the model's own
`State.reset` (whose configuration is a DESIGN CHOICE, log 1). -/
def Obligations.ResetHasInvariant : Prop :=
  (∀ c : Config, c.wf = true → (State.resetWith c).Inv) ∧ State.reset.Inv

/-- R112, R252, R256: every legal command is accepted in every state and ends; a step goes wrong only on an ill-formed
configuration or an access the spec does not define, so a safe state steps to a safe state. -/
def Obligations.SafeStatesStep : Prop :=
  (∀ (s : State) (i : Instr), s.cfg.wf = true → ∃ t, exec i s = .next t) ∧
    ∀ s : State, s.Safe → ∃ t, step s = .next t ∧ t.Safe

/-- R6, R9, R255: no command's result depends on `POLL_DELAY` or on `dtranend_alt_bit`. That none depends on the value of
the handle `PLAT` either is the model's choice (DESIGN CHOICE, log 16: the handle is an unused number). -/
def Obligations.InertConfiguration : Prop :=
  ∀ (s : State) (i : Instr) (delay handle : Nat) (alt : Bool),
    exec i (s.withInert delay handle alt) = outcomeWithInert (exec i s) delay handle alt

/-! ### The HS400 sequences where a step does not settle -/

/-- R186, R216, R127, R250: HS4ENT whose step `last` times out, the steps `done` before it settling after `polls` busy
reads: every write up to and with that step has happened and none later, `needs_adjust` keeps its value up to label 8 and
is set from 9 on, and `mcal_active` keeps its value. -/
def Obligations.Hs4entTimeout : Prop :=
  ∀ (s : State) (done : List ProtectedStep) (last : ProtectedStep) (left : List ProtectedStep) (polls : List Nat),
    s.cfg.wf = true → s.cfg.hs400Disabled = false → hs4entScript s = done ++ last :: left →
    polls.length = done.length → s.Settles 0 polls → s.BusyFrom (drawsOf polls) s.cfg.pollLimit →
    exec .hs4ent s = .next { s with
      err := .idleTimeout, resultVal := 0, resultFstep := BitVec.ofNat 8 last.label, stkTimeout := true
      needsAdjust := if last.label ≤ 8 then s.needsAdjust else true
      store := stored (done ++ [last]) { s.store with platCtrl := s.cfg.platHs400On }
      sources := { s.sources with
        gcbStatus := s.sources.gcbStatus.advanceBy (drawsOf polls + s.cfg.pollLimit)
        ctbCalcode := if 10 ≤ last.label then s.sources.ctbCalcode.advanceBy 1 else s.sources.ctbCalcode }
      trace := s.trace ++ .plat s.cfg.platHs400On :: s.timeoutEvents done polls last }

/-- R187, R188, R216, R129: HS4EXT or HWRST whose step `last` times out, the steps `done` before it settling after `polls`
busy reads: every write up to and with that step has happened and none later, no platform write is made and no internal
reset, and the two flags keep their values up to label 3 and are as McalDisable left them, where it ran, from 4 on. -/
def Obligations.Hs4extHwrstTimeout : Prop :=
  ∀ (s : State) (i : Instr) (done : List ProtectedStep) (last : ProtectedStep) (left : List ProtectedStep)
    (polls : List Nat), s.cfg.wf = true → i = .hs4ext ∨ i = .hwrst → scriptOf i s = done ++ last :: left →
    polls.length = done.length → s.Settles 0 polls → s.BusyFrom (drawsOf polls) s.cfg.pollLimit →
    exec i s = .next { s with
      err := .idleTimeout, resultVal := 0, resultFstep := BitVec.ofNat 8 last.label, stkTimeout := true
      mcalActive := if last.label ≤ 3 then s.mcalActive else false
      needsAdjust := if last.label ≤ 3 ∨ s.mcalActive = false then s.needsAdjust else false
      store := stored (done ++ [last]) s.store
      sources := { s.sources with
        gcbStatus := s.sources.gcbStatus.advanceBy (drawsOf polls + s.cfg.pollLimit) }
      trace := s.trace ++ s.timeoutEvents done polls last }
end

