-- ==== Sys2Proof/Tests/Slice0.lean ====
section
/-! SUPPORT. Tests. Expected values are the spec's own: the worked words of 30_encoding.md and the vectors of
95_test_vectors.md, named at each test. The last part shows, for each statement with hypotheses, a state and operands that
meet all of them. -/

namespace Sys2Proof.Tests

open Sys2Proof Sys2Proof.Machine

/-! ### Helpers -/

/-- "Plain target registers not listed hold 0." -/
def zeroStore : Store := ⟨0, 0, 0, 0, 0, 0, 0, 0, 0, 0, 0⟩

/-- The default configuration of the vectors. -/
def defaultCfg : Config := { Config.fixture with calibTable := none, calibOffset := 0 }

/-- The configuration of program P3. -/
def quirkCfg : Config :=
  { Config.fixture with
    fourTapHs400 := true, manualCalib := true, capHs400Autocorr := false, capHs400DataTracking := false
    hs400FourTapCheck := true }

/-- Volatile reads: `status` first, then "a GCB_STATUS read not listed returns 0". -/
def reads (status rvsreq smpcmp calcode : List Word) : Sources :=
  ⟨⟨status ++ List.replicate 12 0, 0⟩, ⟨rvsreq, 0⟩, ⟨smpcmp, 0⟩, ⟨calcode, 0⟩⟩

/-- The reset state of a device, with the fixtures of the vectors. -/
def device (c : Config) : State :=
  { State.resetWith c with store := zeroStore, sources := reads [] [] [] [] }

/-- The next state of an answer, if it is one. -/
def answer : Host.Outcome State Fault Refusal → Option State
  | .next s => some s
  | .fault _ => none
  | .refused _ => none

/-- The state after the host has written one command word. -/
def after (s : State) (w : Nat) : Option State := answer (step (s.withFetchWord 32 w))

/-- STATUS and RESULT after one command word. -/
def reported (s : State) (w : Nat) : Option (Word × Word) := (after s w).map fun t => (statusWord t, resultWord t)

/-- The writes of one command word. -/
def written (s : State) (w : Nat) : Option (List BusEvent) := (after s w).map fun t => writesOf t.trace

/-- `W(reg, v)`. -/
abbrev wr (r : PlainReg) (v : Word) : BusEvent := .write (.plain r) v

/-- `R(reg) = v`. -/
abbrev rd (r : PlainReg) (v : Word) : BusEvent := .read (.plain r) v

/-- The refusal of an answer, if it is one. -/
def refusal : Host.Outcome State Fault Refusal → Option Refusal
  | .next _ => none
  | .fault _ => none
  | .refused r => some r

/-! ### Decoding: each command's word written out from its format (30_encoding.md R91, R97) -/

theorem test_decode_nop : decode 0b00000000000000000000000000000000#32 = .ok .nop := by decide
theorem test_decode_tbegin : decode 0b00010000000000000000000000000000#32 = .ok .tbegin := by decide
theorem test_decode_probe : decode 0b00010001000000000000000100001011#32 = .ok (.probe true 11) := by decide
theorem test_decode_ldbl : decode 0b00010010000000000111111111111110#32 = .ok (.ldbl 0x7FFE) := by decide
theorem test_decode_ldbh : decode 0b00010011000000001100000000000111#32 = .ok (.ldbh 0xC007) := by decide
theorem test_decode_tune : decode 0b00100000000000000000000000000000#32 = .ok .tune := by decide
theorem test_decode_settm : decode 0b00110000000000000000000000000011#32 = .ok (.settm 3) := by decide
theorem test_decode_drift : decode 0b00110001000000000000000000000000#32 = .ok .drift := by decide
theorem test_decode_hs4ent : decode 0b01000000000000000000000000000000#32 = .ok .hs4ent := by decide
theorem test_decode_hs4ext : decode 0b01000001000000000000000000000000#32 = .ok .hs4ext := by decide
theorem test_decode_hwrst : decode 0b01000010000000000000000000000000#32 = .ok .hwrst := by decide
theorem test_decode_clkup : decode 0b01010000000000000000000000000101#32 = .ok (.clkup 5) := by decide
theorem test_decode_mcalen : decode 0b01010001000000000000000000000000#32 = .ok .mcalen := by decide
theorem test_decode_mcaldis : decode 0b01010010000000000000000000000000#32 = .ok .mcaldis := by decide

/-- V30-12 to V30-20. -/
theorem test_decode_illegal :
    (decode 0x01000000#32).toOption = none ∧ (decode 0xFFFFFFFF#32).toOption = none ∧
      (decode 0x20000001#32).toOption = none ∧ (decode 0x10800000#32).toOption = none ∧
      (decode 0x53000000#32).toOption = none ∧ (decode 0x14000000#32).toOption = none ∧
      (decode 0x12010000#32).toOption = none ∧ (decode 0x5000011F#32).toOption = none ∧
      (decode 0x11000303#32).toOption = none ∧ (decode 0x30000104#32).toOption = none := by decide

/-- Worked encodings of R103. -/
theorem test_encode :
    encode .tune = 0x20000000#32 ∧ encode (.ldbl 0x7FFE) = 0x12007FFE#32 ∧
      encode (.probe true 11) = 0x1100010B#32 ∧ encode (.probe false 11) = 0x1100000B#32 ∧
      encode (.settm 3) = 0x30000003#32 ∧ encode (.clkup 5) = 0x50000005#32 := by decide

/-- Lines of R101 and pseudo-commands of R102. -/
theorem test_assemble :
    assemble .probe [.number 3, .pass] = some [.probe true 3] ∧ assemble .settm [.mode .hs400] = some [.settm 3] ∧
      assemble .ldbm [.number 0xC0077FFE] = some [.ldbl 0x7FFE, .ldbh 0xC007] ∧
      assemble .probes [.number 0x7FFE] = some [.tbegin, .ldbl 0x7FFE, .ldbh 0] ∧
      assemble .probe [.number 256, .pass] = none ∧ assemble .nop [.number 1] = none := by decide

/-! ### Well-formedness: one ill-formed term for each check (00_scope.md R13, 30_encoding.md R99) -/

theorem test_wf_fixtures : Config.fixture.wf = true ∧ defaultCfg.wf = true ∧ quirkCfg.wf = true := by decide
theorem test_wf_tapCount : { defaultCfg with n := 17 }.wf = false ∧ { defaultCfg with n := 0 }.wf = false := by decide
theorem test_wf_fourTap : { quirkCfg with n := 7 }.wf = false := by decide
theorem test_wf_offset : { defaultCfg with calibOffset := 4 }.wf = false := by decide
theorem test_wf_table :
    { defaultCfg with
      calibTable := some { CalibTable.fix with variant0 := CalibTable.fix.variant0.set 7 32 } }.wf = false := by decide
theorem test_wf_spacing : { defaultCfg with regSpacing := 3 }.wf = false := by decide
theorem test_wf_poll : { defaultCfg with pollLimit := 0 }.wf = false := by decide
theorem test_wf_bases : { defaultCfg with baseCtb := 0x1002 }.wf = false := by decide
theorem test_wf_ranges : { defaultCfg with baseCtb := 8 }.wf = false := by decide
theorem test_wf_indices : { defaultCfg with regIndex := [(.plain .ctbTapset, 0)] }.wf = false := by decide
theorem test_wf_operands :
    (Instr.probe true 15).wellFormed 8 = true ∧ (Instr.probe true 16).wellFormed 8 = false ∧
      (Instr.settm 3).wellFormed 8 = true ∧ (Instr.settm 4).wellFormed 8 = false := by decide

/-- U10, U12: what the model refuses. -/
theorem test_refusals :
    refusal (step { device { defaultCfg with pollLimit := 0 } with inbox := [] }) = some .illFormedConfig ∧
      refusal (step { device defaultCfg with inbox := [.hostRead 0x06 4] }) = some .hostAccess ∧
      refusal (step { device defaultCfg with inbox := [.hostWrite 0x00 2 0] }) = some .hostAccess := by decide

/-! ### The host port -/

/-- V70-1: CFG of the default configuration and of program P3. -/
theorem test_cfg : cfgWord defaultCfg = 0x000F0008#32 ∧ cfgWord quirkCfg = 0x00196908#32 := by decide

/-- R34: an unmapped offset and CMD read 0; a write to STATUS is ignored. -/
theorem test_host_port :
    (answer (step { device defaultCfg with inbox := [.hostRead 0x18 4], readData := 5 })).map State.readData = some 0 ∧
      (answer (step { device defaultCfg with inbox := [.hostRead 0x00 4], readData := 5 })).map State.readData = some 0 ∧
      answer (step { device defaultCfg with inbox := [.hostWrite 0x04 4 0xFF] }) = some (device defaultCfg) := by decide

/-- R64. -/
theorem test_byte_order :
    byteOf 0x11223344#32 0 = 0x44#8 ∧ byteOf 0x11223344#32 1 = 0x33#8 ∧ byteOf 0x11223344#32 3 = 0x11#8 := by decide

/-- R62 with the default indices and a spacing of 4. -/
theorem test_addresses :
    defaultCfg.addr (.plain .gcbIfmode) = some 8 ∧ defaultCfg.addr (.plain .ctbCalofs) = some 0x1028 ∧
      defaultCfg.addr (.plain .platCtrl) = none := by decide

/-! ### Commands -/

/-- V30-12, V30-20 and the sticky behaviour after them. -/
theorem test_illegal :
    reported (device defaultCfg) 0x01000000 = some (0x83#32, 0) ∧
      reported (device defaultCfg) 0x30000104 = some (0x83#32, 0) := by decide

/-- P4 line 2: NOP clears `err` and keeps the sticky bit. -/
theorem test_nop :
    reported { device defaultCfg with err := .idleTimeout, resultFstep := 2, stkTimeout := true, mcalActive := true } 0 =
      some (0x440#32, 0) := by decide

/-- V42-1: the bitmap and the window copy are emptied, the tap stays. -/
theorem test_tbegin :
    (after { device defaultCfg with bitmap := 0x7E7E, tapSet := 3, winStart := 1, winEnd := 6, winLen := 6
                                    winValid := true } 0x10000000).map
        (fun t => (statusWord t, bitmapWord t, windowWord t)) = some (0x00030100#32, 0, 0) := by decide

/-- V42-2. -/
theorem test_probe :
    (after (device defaultCfg) 0x1100010B).map bitmapWord = some 0x800#32 ∧
      (after { device defaultCfg with bitmap := 0x800 } 0x1100000B).map bitmapWord = some 0 := by decide

/-- V30-22: `PROBE 16, 1` with `N = 8`. -/
theorem test_probe_out_of_range :
    (after { device defaultCfg with bitmap := 1 } 0x11000110).map (fun t => (statusWord t, bitmapWord t)) =
      some (0x84#32, 1) := by decide

/-- V42-7 and V42-6. -/
theorem test_ldbl :
    (after (device defaultCfg) 0x12007FFE).map bitmapWord = some 0x7FFE#32 ∧
      (after (device { defaultCfg with n := 4 }) 0x1200FFFF).map bitmapWord = some 0xFF#32 := by decide +kernel

/-- V42-5, V42-6, V42-7. -/
theorem test_ldbh :
    (after { device { defaultCfg with n := 16 } with bitmap := 0xC007 } 0x1300C007).map bitmapWord =
        some 0xC007C007#32 ∧
      (after { device { defaultCfg with n := 12 } with bitmap := 0xFFFF } 0x1300FFFF).map bitmapWord =
        some 0xFFFFFF#32 ∧
      (after { device defaultCfg with bitmap := 0x7FFE } 0x1300FFFF).map bitmapWord = some 0x7FFE#32 := by
  decide +kernel

/-- S1 with V43-31: the document's scenario 1, other bits of the register preserved. -/
theorem test_tune :
    (after { device defaultCfg with bitmap := 0x7FFE, store := { zeroStore with ctbRvscntl := 0xF0 } } 0x20000000).map
        (fun t => (statusWord t, resultWord t, windowWord t, bitmapWord t, t.trace)) =
      some (0x00030000#32, 3, 0x80060601#32, 0x7E7E#32, [wr .ctbTapset 3, rd .ctbRvscntl 0xF0, wr .ctbRvscntl 0xF1]) := by
  decide +kernel

/-- V43-7 (a run of two across the middle), with a cycle in progress. -/
theorem test_tune_no_stable_window :
    (after { device defaultCfg with bitmap := 0x8181, tapSet := 3, tuningActive := true } 0x20000000).map
        (fun t => (statusWord t, windowWord t, bitmapWord t, t.trace)) = some (0x00030001#32, 0, 0x8181#32, []) := by
  decide +kernel

/-- V43-5, V43-6, V43-8, V43-26: windows across the middle, and all taps. -/
theorem test_longestRun :
    longestRun 8 0xFFFF#32 = ⟨0, 15, 16⟩ ∧ longestRun 8 0xC3C3#32 = ⟨6, 9, 4⟩ ∧ longestRun 8 0x8383#32 = ⟨7, 9, 3⟩ ∧
      longestRun 16 0xC007C007#32 = ⟨14, 18, 5⟩ ∧ longestRun 8 0#32 = ⟨0, 0, 0⟩ := by decide +kernel

/-- V30-8 and V30-21. -/
theorem test_settm :
    reported (device defaultCfg) 0x30000003 = some (0x3000#32, 0) ∧
      reported (device defaultCfg) 0x30000004 = some (0x84#32, 0) := by decide

/-- V44-5: the auto branch clears the error flag only. -/
theorem test_drift_auto :
    (after { device defaultCfg with
        timing := .hs200, tapSet := 3, store := { zeroStore with ctbRvscntl := 1 }
        sources := reads [] [7] [] [] } 0x31000000).map (fun t => (statusWord t, t.trace)) =
      some (0x00032030#32, [rd .ctbRvscntl 1, .read (.volatile .ctbRvsreq) 7, .write (.volatile .ctbRvsreq) 3]) := by
  decide

/-- V44-7 (special case, halved write) and V44-15 (wrap-around down). -/
theorem test_drift_manual :
    (after { device quirkCfg with timing := .hs400, tapSet := 3, sources := reads [] [0] [0x01000000] [] }
        0x31000000).map (fun t => (statusWord t, writesOf t.trace)) = some (0x00043010#32, [wr .ctbTapset 2]) ∧
      (after { device defaultCfg with timing := .sdr104, sources := reads [] [1] [] [] } 0x31000000).map
        (fun t => (statusWord t, writesOf t.trace)) = some (0x00071020#32, [wr .ctbTapset 7]) := by decide

/-- V41-8 and V41-11; V41-10 without a table. -/
theorem test_clkup :
    reported (device Config.fixture) 0x50000025 = some (0, 8) ∧
      reported (device { Config.fixture with portVariant := 1 }) 0x50000005 = some (0, 0x1A) ∧
      reported (device defaultCfg) 0x50000005 = some (5, 0) := by decide

/-- V41-2: the diagnostic port's upper bits are masked away. -/
theorem test_mcalen :
    (after { device { Config.fixture with calibOffset := 3 } with sources := reads [] [] [] [0xFFFFFFE5] }
        0x51000000).map (fun t => (statusWord t, resultWord t, writesOf t.trace)) =
      some (0x400#32, 0x88, [wr .ctbWpunlock 0xA500, wr .ctbMancal 0x88, wr .ctbCalofs 3]) := by decide

/-- V41-4: without a table MCALEN does nothing. -/
theorem test_mcalen_no_table :
    (after { device defaultCfg with needsAdjust := true } 0x51000000).map (fun t => (statusWord t, t.trace)) =
      some (0x200#32, []) := by decide

/-- V40-2 with `mcal_active` set (P4 line 1): a timeout at step 2. -/
theorem test_mcaldis_timeout :
    (after { device Config.fixture with mcalActive := true, sources := reads [0, 0x4000, 0x4000, 0x4000] [] [] [] }
        0x52000000).map (fun t => (statusWord t, resultWord t, writesOf t.trace)) =
      some (0x442#32, 0x200, [wr .ctbWpunlock 0xA500, wr .ctbMancal 0]) := by decide

/-- V40-3: a device without a busy bit. -/
theorem test_mcaldis_no_busy_bit :
    (after { device { defaultCfg with capBusyBit := false } with
        mcalActive := true, needsAdjust := true, sources := reads [0x2000, 0x6000, 0, 0x4000, 0x2000] [] [] [] }
        0x52000000).map (fun t => (statusWord t, t.sources.gcbStatus.reads)) = some (0, 5) := by decide

/-- P3 line 6: HS4ENT with every condition true. -/
theorem test_hs4ent :
    (after { device quirkCfg with
        tapSet := 5, timing := .hs400
        store := { zeroStore with gcbClkctl := 0x100, ctbRvscntl := 1, ctbTapcfg := 8 }
        sources := reads [] [] [] [5] } 0x40000000).map (fun t => (statusWord t, writesOf t.trace, t.trace.length)) =
      some (0x00053400#32,
        [.plat 1, wr .gcbClkctl 0, wr .gcbIfmode 1, wr .ctbTappos 0x100, wr .ctbRvscntl 0, wr .ctbAdjctl 3,
          wr .ctbTapcfg 4, wr .ctbTapset 2, wr .gcbClkctl 0x100, wr .ctbWpunlock 0xA500, wr .ctbMancal 0x88,
          wr .ctbCalofs 2], 30) := by decide +kernel

/-- V45-5: the calibrator times out at step 10. -/
theorem test_hs4ent_timeout :
    (after { device { Config.fixture with manualCalib := true, calibOffset := 1 } with
        sources := reads [0, 0, 0, 0, 0, 0, 0x4000, 0x4000, 0x4000] [] [] [2] } 0x40000000).map
        (fun t => (statusWord t, resultWord t, lastWrite t.trace)) =
      some (0x242#32, 0xA00, some (wr .ctbMancal 0x86)) := by decide +kernel

/-- P3 line 8: HS4EXT with every condition true. -/
theorem test_hs4ext :
    (after { device quirkCfg with
        tapSet := 6, timing := .hs400, mcalActive := true, driftEv := .tapUp
        store := { zeroStore with gcbClkctl := 0x100, gcbIfmode := 1, ctbAdjctl := 3, ctbTapcfg := 4 } }
        0x41000000).map (fun t => (statusWord t, writesOf t.trace)) =
      some (0x00063010#32,
        [wr .ctbWpunlock 0xA500, wr .ctbMancal 0, wr .ctbCalofs 0, wr .gcbClkctl 0, wr .ctbTapcfg 8, wr .ctbTapset 6,
          wr .ctbAdjctl 0, wr .ctbRvscntl 1, wr .ctbTappos 0x300, wr .gcbIfmode 0, wr .gcbClkctl 0x100, .plat 0]) := by
  decide +kernel

/-- V45-7: HWRST with everything to undo. -/
theorem test_hwrst :
    (after { device { defaultCfg with fourTapHs400 := true } with
        tapSet := 6, mcalActive := true, timing := .hs400, bitmap := 0x7070, driftEv := .tapUp, stkTimeout := true
        tuningActive := true
        store := { zeroStore with gcbClkctl := 0x100, gcbIfmode := 1, ctbAdjctl := 3, ctbRvscntl := 1, ctbTapcfg := 0x104 } }
        0x42000000).map (fun t => (statusWord t, bitmapWord t, windowWord t, writesOf t.trace)) =
      some (0x3040#32, 0, 0,
        [wr .ctbWpunlock 0xA500, wr .ctbMancal 0, wr .ctbCalofs 0, wr .gcbClkctl 0, wr .ctbTapcfg 0x108, wr .ctbTapset 0,
          wr .ctbAdjctl 0, wr .ctbRvscntl 0, wr .ctbTappos 0x300, wr .gcbIfmode 0, wr .gcbClkctl 0x100]) := by
  decide +kernel

/-- V45-8: HWRST times out at step 6 and keeps the state of TWS. -/
theorem test_hwrst_timeout :
    (after { device defaultCfg with
        tapSet := 6, bitmap := 0x7070, store := { zeroStore with gcbClkctl := 0x100 }
        sources := reads [0, 0x4000, 0x4000, 0x4000] [] [] [] } 0x42000000).map
        (fun t => (statusWord t, resultWord t, bitmapWord t, t.store.gcbClkctl)) =
      some (0x00060042#32, 0x600, 0x7070#32, 0) := by decide +kernel

/-- R240: the reset input clears the sticky bits and touches no target register. -/
theorem test_power_on :
    (answer (step { device defaultCfg with inbox := [.powerOn], stkTimeout := true, bitmap := 5, store := { zeroStore with ctbTapset := 3 } })).map
        (fun t => (statusWord t, bitmapWord t, t.store.ctbTapset)) = some (0, 0, 3) := by decide

/-- R74: a collaborator writes the tap register, and reads a volatile one. -/
theorem test_collaborator :
    (answer (step { device defaultCfg with inbox := [.busWrite (.plain .ctbTapset) 9] })).map
        (fun t => (t.store.ctbTapset, t.trace)) = some (9, []) ∧
      (answer (step { device defaultCfg with
          inbox := [.busRead (.volatile .ctbRvsreq)], sources := reads [] [4] [] [] })).map State.readData = some 4 := by
  decide

/-! ### Witnesses: states and operands that meet the hypotheses of each statement, all together -/

/-- A device with one move of the outside world waiting. -/
abbrev facing (m : Move) : State := { device defaultCfg with inbox := [m] }

/-- The command answers a next state that has `p`. -/
def runs (i : Instr) (s : State) (p : State → Bool) : Bool :=
  match exec i s with
  | .next t => p t
  | .fault _ => false
  | .refused _ => false

theorem next_of_runs {i : Instr} {s : State} {p : State → Bool} (h : runs i s p = true) :
    ∃ t, exec i s = .next t ∧ p t = true := by
  unfold runs at h
  split at h
  · exact ⟨_, ‹_›, h⟩
  · cases h
  · cases h

theorem test_witness_EncodeOfDecode : decode 0x1100010B#32 = .ok (.probe true 11) := by decide

theorem test_witness_LegalWordsAreTableRows :
    ∃ row ∈ opcodeRows, row.covers 0x1100010B#32 = true ∧ decode 0x1100010B#32 = .ok (.probe true 11) := by decide

theorem test_witness_IllegalWordOutcome :
    (device defaultCfg).cfg.wf = true ∧ ¬ ∃ row ∈ opcodeRows, row.covers 0x20000001#32 = true := by decide

theorem test_witness_StepRunsDecodedCommand :
    (facing (.hostWrite 0x00 4 0x30000003)).cfg.wf = true ∧
      (facing (.hostWrite 0x00 4 0x30000003)).inbox = [.hostWrite 0x00 4 0x30000003] ∧
      decode 0x30000003#32 = .ok (.settm 3) := by decide

theorem test_witness_IllFormedConfigRefused : (device { defaultCfg with n := 17 }).cfg.wf = false := by decide

/-- Reads at the two ends of the clause, and each way an access can be undefined. -/
theorem test_witness_OtherHostAccesses :
    (device defaultCfg).cfg.wf = true ∧ (facing (.hostRead 0x18 4)).inbox = [.hostRead 0x18 4] ∧ 0x18 % 4 = 0 ∧
      (facing (.hostRead 0x00 4)).inbox = [.hostRead 0x00 4] ∧
      (facing (.hostWrite 0x04 4 1)).inbox = [.hostWrite 0x04 4 1] ∧ 0x04 % 4 = 0 ∧
      (facing (.hostRead 0x04 2)).inbox = [.hostRead 0x04 2] ∧
      (facing (.hostWrite 0x06 4 1)).inbox = [.hostWrite 0x06 4 1] ∧ 0x06 % 4 ≠ 0 := by decide

theorem test_witness_StatusRead :
    (device defaultCfg).cfg.wf = true ∧ (facing (.hostRead 0x04 4)).inbox = [.hostRead 0x04 4] ∧
      (facing (.hostWrite 0x04 4 1)).inbox = [.hostWrite 0x04 4 1] := by decide

theorem test_witness_ResultWindowBitmapReads :
    (device defaultCfg).cfg.wf = true ∧ (facing (.hostRead 0x08 4)).inbox = [.hostRead 0x08 4] ∧
      (facing (.hostRead 0x0C 4)).inbox = [.hostRead 0x0C 4] ∧ (facing (.hostRead 0x10 4)).inbox = [.hostRead 0x10 4] ∧
      (facing (.hostWrite 0x10 4 1)).inbox = [.hostWrite 0x10 4 1] := by decide

theorem test_witness_CfgRead :
    (facing (.hostRead 0x14 4)).cfg.wf = true ∧ (facing (.hostRead 0x14 4)).inbox = [.hostRead 0x14 4] := by decide

theorem test_witness_PowerOnReset :
    (facing .powerOn).cfg.wf = true ∧ (facing .powerOn).inbox = [.powerOn] := by decide

theorem test_witness_IdleChangesNothing :
    (device defaultCfg).cfg.wf = true ∧ (device defaultCfg).inbox = [] := by decide

theorem test_witness_CollaboratorAccess :
    (device defaultCfg).cfg.wf = true ∧
      (facing (.busWrite (.plain .ctbTapset) 5)).inbox = [.busWrite (.plain .ctbTapset) 5] ∧
      (facing (.busWrite (.volatile .ctbSmpcmp) 0)).inbox = [.busWrite (.volatile .ctbSmpcmp) 0] ∧
      (facing (.busRead (.plain .platCtrl))).inbox = [.busRead (.plain .platCtrl)] ∧
      (facing (.busRead (.volatile .gcbStatus))).inbox = [.busRead (.volatile .gcbStatus)] := by decide

theorem test_witness_AddressesDistinct :
    defaultCfg.wf = true ∧ defaultCfg.addr (.plain .gcbClkctl) = some 0 ∧
      ({ defaultCfg with regSpacing := 2 } : Config).wf = true := by decide

theorem test_witness_NopResult : (device defaultCfg).cfg.wf = true := by decide

/-- With tuning disabled too. -/
theorem test_witness_TbeginResult : (device { defaultCfg with tuningEnabled := false }).cfg.wf = true := by decide

/-- The smallest tap count and the largest. -/
theorem test_witness_LdblResult :
    (device { defaultCfg with n := 1 }).cfg.wf = true ∧ (device { defaultCfg with n := 16 }).cfg.wf = true := by decide

theorem test_witness_LdbmLoadsBitmap : (device { defaultCfg with n := 12 }).cfg.wf = true := by decide

theorem test_witness_ProbeResult :
    (device defaultCfg).cfg.wf = true ∧ (15#8).toNat < 2 * (device defaultCfg).cfg.n ∧
      2 * (device defaultCfg).cfg.n ≤ (16#8).toNat := by decide

theorem test_witness_LdbhResult :
    (device { defaultCfg with n := 16 }).cfg.wf = true ∧ (device defaultCfg).cfg.n ≤ 8 ∧
      ¬ (device { defaultCfg with n := 16 }).cfg.n ≤ 8 := by decide

theorem test_witness_MergeConfirmsPairs :
    (1 ≤ 1 ∧ 1 ≤ 16 ∧ 0 < 1 ∧ 2 * 1 ≤ 2) ∧ (1 ≤ 16 ∧ 16 ≤ 16 ∧ 15 < 16 ∧ 2 * 16 ≤ 32) ∧
      (merge 8 0x7FFE#32).getLsbD 1 = true := by decide +kernel

/-- No run at all, the run of scenario 1, and a run at the top of the bitmap. -/
theorem test_witness_LongestRunEarliest :
    (∀ j, j < 2 * 8 → (0#32).getLsbD j = false) ∧ 0 < (longestRun 8 0x7E7E#32).len ∧ RunAt 0x8000#32 (2 * 8) 15 15 := by
  refine ⟨by decide, by decide +kernel, by decide, by decide, fun i h h' => ?_⟩
  rw [Nat.le_antisymm h' h]
  decide

theorem test_witness_MergedWindowBounds :
    0 < (longestRun 1 (merge 1 0x3#32)).len ∧ 0 < (longestRun 16 (merge 16 0xC007C007#32)).len := by decide +kernel

/-- A window of exactly three, halved. -/
theorem test_witness_TuneSuccess :
    ∃ s : State, s.cfg.wf = true ∧ s.cfg.tuningEnabled = true ∧ s.cfg.fourTapHs400 = true ∧ s.timing = .hs400 ∧
      longestRun s.cfg.n (merge s.cfg.n s.bitmap) = ⟨4, 6, 3⟩ ∧ 3 ≤ (⟨4, 6, 3⟩ : TapWindow).len ∧
      5 = (4 + 6) / 2 % s.cfg.n :=
  ⟨{ device quirkCfg with bitmap := 0x7070, timing := .hs400 }, by decide +kernel⟩

/-- A window of exactly two. -/
theorem test_witness_TuneNoStableWindow :
    ∃ s : State, s.cfg.wf = true ∧ s.cfg.tuningEnabled = true ∧ (longestRun s.cfg.n (merge s.cfg.n s.bitmap)).len = 2 :=
  ⟨{ device defaultCfg with bitmap := 0x8181 }, by decide +kernel⟩

theorem test_witness_TuneLeavesMirroredBitmap :
    ∃ s t : State, exec .tune s = .next t ∧ s.cfg.tuningEnabled = true := by
  obtain ⟨t, h, -⟩ := next_of_runs (i := .tune) (s := device defaultCfg) (p := fun _ => true) (by decide +kernel)
  exact ⟨_, t, h, rfl⟩

theorem test_witness_SettmResult :
    (device defaultCfg).cfg.wf = true ∧ (3#8).toNat ≤ 3 ∧ 3 < (4#8).toNat ∧ 3 < (255#8).toNat := by decide

/-- Gated out by the timing mode, and by a tuning cycle. -/
theorem test_witness_DriftGate :
    (device defaultCfg).cfg.wf = true ∧ driftGate (device defaultCfg) = false ∧
      driftGate { device defaultCfg with timing := .hs200, tuningActive := true } = false := by decide

theorem test_witness_DriftAutoBranch :
    ∃ s : State, s.cfg.wf = true ∧ driftGate s = true ∧ s.store.ctbRvscntl.getLsbD 0 = true ∧
      4#32 = s.upcoming .ctbRvsreq 0 :=
  ⟨{ device defaultCfg with
      timing := .hs200, store := { zeroStore with ctbRvscntl := 1 }, sources := reads [] [4] [] [] }, by decide⟩

/-- The special case with TapUp at the top tap, and the normal case with nothing to do. -/
theorem test_witness_DriftManualBranch :
    (∃ s : State, s.cfg.wf = true ∧ driftGate s = true ∧ s.store.ctbRvscntl.getLsbD 0 = false ∧
      0#32 = s.upcoming .ctbRvsreq 0 ∧ 0x01000000#32 = s.upcoming .ctbSmpcmp 0 ∧ s.timing = .hs400 ∧
      s.cfg.capHs400DataTracking = false ∧ (0x01000000#32).getLsbD 24 = true ∧ (0x01000000#32).getLsbD 8 = false ∧
      0 = (s.tapSet.toNat + 1) % s.cfg.n) ∧
    ∃ s : State, s.cfg.wf = true ∧ driftGate s = true ∧ s.store.ctbRvscntl.getLsbD 0 = false ∧
      0#32 = s.upcoming .ctbRvsreq 0 ∧ 0#32 = s.upcoming .ctbSmpcmp 0 ∧ s.timing = .sdr104 :=
  ⟨⟨{ device quirkCfg with timing := .hs400, tapSet := 7, sources := reads [] [0] [0x01000000] [] }, by decide⟩,
    ⟨{ device defaultCfg with timing := .sdr104, sources := reads [] [0] [0] [] }, by decide⟩⟩

theorem test_witness_FourTapHalving :
    ∃ s t : State, exec .drift s = .next t ∧ s.cfg.fourTapHs400 = true ∧ s.timing = .hs400 := by
  obtain ⟨t, h, -⟩ := next_of_runs (i := .drift) (p := fun _ => true)
    (s := { device quirkCfg with timing := .hs400, sources := reads [] [0] [0x100] [] }) (by decide +kernel)
  exact ⟨_, t, h, rfl, rfl⟩

theorem test_witness_IdleTest :
    defaultCfg.capBusyBit = true ∧ ({ defaultCfg with capBusyBit := false } : Config).capBusyBit = false := by decide

/-- Idle at the first poll, and at the last one allowed. -/
theorem test_witness_ProtectedWriteSucceeds :
    (∃ s : State, 0 < s.cfg.pollLimit ∧ s.BusyFor 0 ∧ idle s.cfg (s.upcoming .gcbStatus 0) = true) ∧
      ∃ s : State, 2 < s.cfg.pollLimit ∧ s.BusyFor 2 ∧ idle s.cfg (s.upcoming .gcbStatus 2) = true :=
  ⟨⟨device defaultCfg, by decide⟩, ⟨{ device defaultCfg with sources := reads [0x4000, 0x4000] [] [] [] }, by decide⟩⟩

theorem test_witness_ProtectedWriteTimesOut : ∃ s : State, s.BusyFor s.cfg.pollLimit :=
  ⟨{ device defaultCfg with sources := reads [0x4000, 0x4000, 0x4000] [] [] [] }, by decide⟩

theorem test_witness_ClkupResult :
    (device Config.fixture).cfg.wf = true ∧ (device Config.fixture).cfg.calibTable = some CalibTable.fix ∧
      (device defaultCfg).cfg.calibTable = none := by decide

/-- A device on which protected writes settle after `polls` busy reads, and those after them at once. -/
def slow (c : Config) (polls : List Nat) : State :=
  { device c with sources := reads (polls.flatMap fun m => List.replicate m 0x4000 ++ [0]) [] [] [5] }

/-- A device on which protected writes settle after `polls` busy reads, and the next one does not. -/
def stuckAfter (c : Config) (polls : List Nat) : State :=
  { device c with
    sources := reads ((polls.flatMap fun m => List.replicate m 0x4000 ++ [0]) ++ List.replicate 3 0x4000) [] [] [5] }

/-- At once, and at the last poll allowed. -/
theorem test_witness_McalenSuccess :
    ∃ s : State, s.cfg.wf = true ∧ s.cfg.calibTable = some CalibTable.fix ∧ s.Settles 0 [0, 2, 1] ∧
      5#32 = s.upcoming .ctbCalcode 0 :=
  ⟨slow Config.fixture [0, 2, 1], by simp only [State.Settles]; decide⟩

/-- The first step and the last one. -/
theorem test_witness_McalenTimeout :
    (∃ s : State, s.cfg.wf = true ∧ s.cfg.calibTable = some CalibTable.fix ∧ ([] : List Nat).length = 1 - 1 ∧
      s.Settles 0 [] ∧ s.BusyFrom (drawsOf []) s.cfg.pollLimit) ∧
    ∃ s : State, s.cfg.wf = true ∧ s.cfg.calibTable = some CalibTable.fix ∧ [0, 2].length = 3 - 1 ∧
      s.Settles 0 [0, 2] ∧ s.BusyFrom (drawsOf [0, 2]) s.cfg.pollLimit :=
  ⟨⟨stuckAfter Config.fixture [], by simp only [State.Settles]; decide⟩,
    ⟨stuckAfter Config.fixture [0, 2], by simp only [State.Settles]; decide⟩⟩

theorem test_witness_McaldisSuccess : ∃ s : State, s.cfg.wf = true ∧ s.Settles 0 [2, 0, 1] :=
  ⟨slow defaultCfg [2, 0, 1], by simp only [State.Settles]; decide⟩

theorem test_witness_McaldisTimeout :
    (∃ s : State, s.cfg.wf = true ∧ ([] : List Nat).length = 1 - 1 ∧ s.Settles 0 [] ∧
      s.BusyFrom (drawsOf []) s.cfg.pollLimit) ∧
    ∃ s : State, s.cfg.wf = true ∧ [2, 0].length = 3 - 1 ∧ s.Settles 0 [2, 0] ∧
      s.BusyFrom (drawsOf [2, 0]) s.cfg.pollLimit :=
  ⟨⟨stuckAfter defaultCfg [], by simp only [State.Settles]; decide⟩,
    ⟨stuckAfter defaultCfg [2, 0], by simp only [State.Settles]; decide⟩⟩

/-- With every condition true, and with none. -/
theorem test_witness_Hs4entSuccess :
    (∃ s : State, s.cfg.wf = true ∧ s.cfg.hs400Disabled = false ∧
      [0, 2, 0, 1, 0, 0, 0, 0, 0, 0, 2].length = (hs4entScript s).length ∧ s.Settles 0 [0, 2, 0, 1, 0, 0, 0, 0, 0, 0, 2] ∧
      s.cfg.manualCalib = true ∧ s.cfg.calibTable = some CalibTable.fix ∧ s.upcoming .ctbCalcode 0 = 5) ∧
    ∃ s : State, s.cfg.wf = true ∧ s.cfg.hs400Disabled = false ∧ [0, 0, 2, 0, 0].length = (hs4entScript s).length ∧
      s.Settles 0 [0, 0, 2, 0, 0] ∧ s.cfg.manualCalib = false :=
  ⟨⟨slow quirkCfg [0, 2, 0, 1, 0, 0, 0, 0, 0, 0, 2], by simp only [State.Settles]; decide +kernel⟩,
    ⟨slow defaultCfg [0, 0, 2, 0, 0], by simp only [State.Settles]; decide +kernel⟩⟩

theorem test_witness_Hs4extSuccess :
    ∃ s : State, s.cfg.wf = true ∧ s.mcalActive = true ∧
      [0, 2, 0, 1, 0, 0, 0, 0, 0, 0, 2].length = (hs4extScript s).length ∧
      s.Settles 0 [0, 2, 0, 1, 0, 0, 0, 0, 0, 0, 2] :=
  ⟨{ slow quirkCfg [0, 2, 0, 1, 0, 0, 0, 0, 0, 0, 2] with mcalActive := true },
    by simp only [State.Settles]; decide +kernel⟩

theorem test_witness_HwrstSuccess :
    ∃ s : State, s.cfg.wf = true ∧ [0, 2, 0, 1, 0, 0, 0].length = (hwrstScript s).length ∧
      s.Settles 0 [0, 2, 0, 1, 0, 0, 0] ∧ s.timing = .hs400 ∧ s.stkTimeout = true :=
  ⟨{ slow defaultCfg [0, 2, 0, 1, 0, 0, 0] with timing := .hs400, stkTimeout := true },
    by simp only [State.Settles]; decide +kernel⟩

/-- The pause, the first step; and the last write of the calibrator. -/
theorem test_witness_Hs4entTimeout :
    (∃ (s : State) (last : ProtectedStep) (left : List ProtectedStep), s.cfg.wf = true ∧ s.cfg.hs400Disabled = false ∧
      hs4entScript s = [] ++ last :: left ∧ last.label = 1 ∧ s.Settles 0 [] ∧ s.BusyFrom (drawsOf []) s.cfg.pollLimit) ∧
    ∃ (s : State) (done : List ProtectedStep) (last : ProtectedStep), s.cfg.wf = true ∧ s.cfg.hs400Disabled = false ∧
      hs4entScript s = done ++ last :: [] ∧ last.label = 11 ∧ [0, 0, 2, 0, 0, 0, 0, 1, 0, 0].length = done.length ∧
      s.Settles 0 [0, 0, 2, 0, 0, 0, 0, 1, 0, 0] ∧ s.BusyFrom (drawsOf [0, 0, 2, 0, 0, 0, 0, 1, 0, 0]) s.cfg.pollLimit := by
  refine ⟨⟨stuckAfter defaultCfg [], _, _, rfl, rfl, rfl, rfl, by simp only [State.Settles], by decide⟩,
    ⟨stuckAfter quirkCfg [0, 0, 2, 0, 0, 0, 0, 1, 0, 0],
      (hs4entScript (stuckAfter quirkCfg [0, 0, 2, 0, 0, 0, 0, 1, 0, 0])).take 10, writeStep 11 .ctbCalofs 2, ?_⟩⟩
  simp only [State.Settles]
  decide +kernel

/-- HS4EXT at the last step of McalDisable, HWRST at the pause that follows it. -/
theorem test_witness_Hs4extHwrstTimeout :
    (∃ (s : State) (done : List ProtectedStep) (last : ProtectedStep) (left : List ProtectedStep), s.cfg.wf = true ∧
      scriptOf .hs4ext s = done ++ last :: left ∧ last.label = 3 ∧ [2, 0].length = done.length ∧ s.Settles 0 [2, 0] ∧
      s.BusyFrom (drawsOf [2, 0]) s.cfg.pollLimit ∧ s.mcalActive = true) ∧
    ∃ (s : State) (done : List ProtectedStep) (last : ProtectedStep) (left : List ProtectedStep), s.cfg.wf = true ∧
      scriptOf .hwrst s = done ++ last :: left ∧ last.label = 4 ∧ [2, 0, 1].length = done.length ∧
      s.Settles 0 [2, 0, 1] ∧ s.BusyFrom (drawsOf [2, 0, 1]) s.cfg.pollLimit ∧ s.mcalActive = true := by
  refine ⟨⟨{ stuckAfter defaultCfg [2, 0] with mcalActive := true },
      (hs4extScript { stuckAfter defaultCfg [2, 0] with mcalActive := true }).take 2, writeStep 3 .ctbCalofs 0,
      (hs4extScript { stuckAfter defaultCfg [2, 0] with mcalActive := true }).drop 3, ?_⟩,
    ⟨{ stuckAfter quirkCfg [2, 0, 1] with mcalActive := true },
      (hwrstScript { stuckAfter quirkCfg [2, 0, 1] with mcalActive := true }).take 3,
      pauseStep 4 { stuckAfter quirkCfg [2, 0, 1] with mcalActive := true },
      (hwrstScript { stuckAfter quirkCfg [2, 0, 1] with mcalActive := true }).drop 4, ?_⟩⟩
  · simp only [State.Settles]
    decide +kernel
  · simp only [State.Settles]
    decide +kernel

theorem test_witness_TimeoutNamesLastWrite :
    ∃ s t : State, exec .mcaldis s = .next t ∧ t.err = .idleTimeout ∧ t.resultFstep = 2 := by
  obtain ⟨t, h, k⟩ := next_of_runs (i := .mcaldis) (s := stuckAfter defaultCfg (List.replicate 1 0))
    (p := fun t => decide (t.err = .idleTimeout ∧ t.resultFstep = 2)) (by decide +kernel)
  exact ⟨_, t, h, of_decide_eq_true k⟩

/-- Each clause at an end of its range: HS4ENT at 7, HS4EXT at 4, HWRST at 10. -/
theorem test_witness_TimeoutLeavesClockPaused :
    (∃ s t : State, exec .hs4ent s = .next t ∧ t.err = .idleTimeout ∧ t.resultFstep.toNat = 7) ∧
    (∃ s t : State, exec .hs4ext s = .next t ∧ t.err = .idleTimeout ∧ t.resultFstep.toNat = 4) ∧
    ∃ s t : State, exec .hwrst s = .next t ∧ t.err = .idleTimeout ∧ t.resultFstep.toNat = 10 := by
  obtain ⟨t, h, k⟩ := next_of_runs (i := .hs4ent) (s := stuckAfter quirkCfg (List.replicate 6 0))
    (p := fun t => decide (t.err = .idleTimeout ∧ t.resultFstep.toNat = 7)) (by decide +kernel)
  obtain ⟨t', h', k'⟩ := next_of_runs (i := .hs4ext) (s := stuckAfter defaultCfg [])
    (p := fun t => decide (t.err = .idleTimeout ∧ t.resultFstep.toNat = 4)) (by decide +kernel)
  obtain ⟨t'', h'', k''⟩ := next_of_runs (i := .hwrst) (s := stuckAfter quirkCfg (List.replicate 6 0))
    (p := fun t => decide (t.err = .idleTimeout ∧ t.resultFstep.toNat = 10)) (by decide +kernel)
  exact ⟨⟨_, t, h, of_decide_eq_true k⟩, ⟨_, t', h', of_decide_eq_true k'⟩, _, t'', h'', of_decide_eq_true k''⟩

theorem test_witness_HwrstTimeoutKeepsState :
    ∃ s t : State, exec .hwrst s = .next t ∧ t.err = .idleTimeout := by
  obtain ⟨t, h, k⟩ := next_of_runs (i := .hwrst) (s := stuckAfter defaultCfg [])
    (p := fun t => decide (t.err = .idleTimeout)) (by decide +kernel)
  exact ⟨_, t, h, of_decide_eq_true k⟩

/-- With the 4-tap quirk and without auto-correction in HS400, and the other way round. -/
theorem test_witness_EnterThenExitRestores :
    (∃ s t u : State, exec .hs4ent s = .next t ∧ t.err = .ok ∧ exec .hs4ext t = .next u ∧ u.err = .ok ∧
      s.cfg.capHs400Autocorr = false ∧ s.cfg.fourTapHs400 = true) ∧
    ∃ s t u : State, exec .hs4ent s = .next t ∧ t.err = .ok ∧ exec .hs4ext t = .next u ∧ u.err = .ok ∧
      s.cfg.capHs400Autocorr = true ∧ s.store.ctbRvscntl.getLsbD 0 = true ∧ s.cfg.fourTapHs400 = false := by
  have key (s : State)
      (h : runs .hs4ent s (fun t => decide (t.err = .ok) && runs .hs4ext t (fun u => decide (u.err = .ok))) = true) :
      ∃ t u : State, exec .hs4ent s = .next t ∧ t.err = .ok ∧ exec .hs4ext t = .next u ∧ u.err = .ok := by
    obtain ⟨t, ht, k⟩ := next_of_runs h
    rw [Bool.and_eq_true] at k
    obtain ⟨u, hu, k'⟩ := next_of_runs k.2
    exact ⟨t, u, ht, of_decide_eq_true k.1, hu, of_decide_eq_true k'⟩
  obtain ⟨t, u, h⟩ := key { device { quirkCfg with manualCalib := false } with sources := reads (List.replicate 12 0) [] [] [] }
    (by decide +kernel)
  obtain ⟨t', u', h'⟩ := key { device defaultCfg with
    store := { zeroStore with ctbRvscntl := 1 }, sources := reads (List.replicate 12 0) [] [] [] } (by decide +kernel)
  exact ⟨⟨_, t, u, h.1, h.2.1, h.2.2.1, h.2.2.2, rfl, rfl⟩, _, t', u', h'.1, h'.2.1, h'.2.2.1, h'.2.2.2, rfl, rfl, rfl⟩

theorem test_witness_DisabledOutcomes :
    ({ defaultCfg with tuningEnabled := false } : Config).wf = true ∧
      ({ defaultCfg with hs400Disabled := true } : Config).wf = true ∧ defaultCfg.wf = true ∧
      defaultCfg.calibTable = none := by decide

/-- For each outcome, a command that ends with it. -/
theorem test_witness_CommandEndings :
    runs (.clkup 5) (device Config.fixture) (fun t => decide (t.err = .ok ∧ t.resultVal ≠ 0)) = true ∧
      runs .tune (device defaultCfg) (fun t => decide (t.err = .noStableWindow)) = true ∧
      runs .mcaldis (stuckAfter defaultCfg []) (fun t => decide (t.err = .idleTimeout)) = true ∧
      runs (.probe true 16) (device defaultCfg) (fun t => decide (t.err = .badOperand)) = true ∧
      runs (.clkup 5) (device defaultCfg) (fun t => decide (t.err = .disabled)) = true := by decide +kernel

/-- A command that sets a bit, an illegal word, and the only move that clears both. -/
theorem test_witness_StickyBits :
    runs .mcaldis (stuckAfter defaultCfg []) (fun t => t.stkTimeout) = true ∧
      decode 0x20000001#32 = .error (.reservedBits 0x20) ∧
      (answer (deliver 0x20000001#32 (device defaultCfg))).isSome = true ∧
      (answer (step { facing .powerOn with stkTimeout := true, stkIllegal := true })).map
        (fun t => (t.stkTimeout, t.stkIllegal)) = some (false, false) := by decide +kernel

/-- A command outside every list of writers but that of `bitmap`, and SETTM outside that one. -/
theorem test_witness_WritersOfState :
    (∃ s t : State, exec (.ldbl 0x7FFE) s = .next t) ∧ (Instr.ldbl 0x7FFE).mnemonic ∉ [Mnemonic.tune, .drift, .hwrst] ∧
      (∃ s t : State, exec (.settm 3) s = .next t) ∧
      (Instr.settm 3).mnemonic ∉ [Mnemonic.tbegin, .probe, .ldbl, .ldbh, .tune, .hwrst] := by
  obtain ⟨t, h, -⟩ := next_of_runs (i := .ldbl 0x7FFE) (s := device defaultCfg) (p := fun _ => true) (by decide +kernel)
  obtain ⟨t', h', -⟩ := next_of_runs (i := .settm 3) (s := device defaultCfg) (p := fun _ => true) (by decide +kernel)
  exact ⟨⟨_, t, h⟩, by decide, ⟨_, t', h'⟩, by decide⟩

/-- HWRST, which must leave the platform register and the draws of the diagnostic port. -/
theorem test_witness_RegistersReached :
    (∃ s t : State, exec .hwrst s = .next t) ∧ Target.plain .platCtrl ∉ mayWrite .hwrst ∧
      Target.volatile .ctbCalcode ∉ mayRead .hwrst := by
  obtain ⟨t, h, -⟩ := next_of_runs (i := .hwrst) (s := device defaultCfg) (p := fun _ => true) (by decide +kernel)
  exact ⟨⟨_, t, h⟩, by decide⟩

theorem test_witness_ConfigNeverChanges :
    (answer (step (facing (.hostWrite 0x00 4 0x30000003)))).isSome = true := by decide +kernel

/-- A state with a valid window, a tap at the end of the range and a command waiting; the step answers a next state. -/
theorem test_witness_StepKeepsInvariant :
    ∃ s : State, s.Inv ∧ s.winValid = true ∧ (answer (step s)).isSome = true := by
  refine ⟨{ facing (.hostWrite 0x00 4 0x1100000B) with
    bitmap := 0x7E7E, tapSet := 7, winStart := 1, winEnd := 6, winLen := 6, winValid := true }, ⟨by decide, ?_, ?_, ?_⟩,
    rfl, by decide +kernel⟩
  · change (7#8).toNat < 8
    decide
  · intro i h
    change 2 * 8 ≤ i at h
    change (0x7E7E#32).getLsbD i = false
    by_cases k : i < 32
    · interval_cases i <;> rfl
    · exact BitVec.getLsbD_of_ge _ _ (by omega)
  · intro _
    change 3 ≤ (6#8).toNat ∧ (6#8).toNat = (1#8).toNat + (6#8).toNat - 1 ∧ (6#8).toNat < 2 * 8
    decide

theorem test_witness_ResetHasInvariant : Config.fixture.wf = true ∧ quirkCfg.wf = true := by decide

/-- A safe state with one move of each kind waiting. -/
theorem test_witness_SafeStatesStep :
    ∃ s : State, s.Safe ∧ s.inbox.length = 5 :=
  ⟨{ device defaultCfg with
      inbox := [.hostWrite 0x00 4 0x20000000, .hostRead 0x14 4, .busWrite (.plain .ctbTapset) 1,
        .busRead (.volatile .ctbRvsreq), .powerOn] }, ⟨by decide, by decide⟩, rfl⟩

end Sys2Proof.Tests
end

section
/-! SUPPORT. The scope of the model (00_scope.md): a configuration that is not well formed is refused (R13), and no
command can tell two devices apart that differ only in `POLL_DELAY`, `dtranend_alt_bit` and the handle `PLAT` (R6, R9,
log 16). For the second, every line of every procedure is shown to be `Blind` to the three fields. -/

namespace Sys2Proof.Machine

open Sys2Proof

/-! ### A configuration that is not well formed -/

theorem step_illFormed {s : State} (h : s.cfg.wf = false) : step s = .refused .illFormedConfig :=
  guarded_illFormed h _

theorem runCommand_illFormed (p : Action) {s : State} (h : s.cfg.wf = false) :
    runCommand p s = .refused .illFormedConfig :=
  guarded_illFormed h _

theorem exec_illFormed (i : Instr) {s : State} (h : s.cfg.wf = false) : exec i s = .refused .illFormedConfig := by
  rw [exec_eq_runCommand, runCommand_illFormed _ h]

/-- Settles O7: a step and a command both run under `guarded`, which refuses such a device. -/
theorem illFormedConfigRefused : Obligations.IllFormedConfigRefused :=
  fun _ h => ⟨step_illFormed h, fun i => exec_illFormed i h⟩

/-! ### Procedures that do not see the three fields -/

@[simp] theorem State.withInert_cfg_calibTable (s : State) (delay handle : Nat) (alt : Bool) :
    (s.withInert delay handle alt).cfg.calibTable = s.cfg.calibTable := rfl

/-- The end of a procedure with its state changed in the three fields. -/
def Proc.withInert {α : Type} (p : Proc α) (delay handle : Nat) (alt : Bool) : Proc α :=
  match p with
  | .done a s => .done a (s.withInert delay handle alt)
  | .raised x s => .raised x (s.withInert delay handle alt)

/-- A procedure that runs alike on devices that differ in the three fields only, and keeps the difference. -/
def Blind {α : Type} (p : State → Proc α) : Prop :=
  ∀ (s : State) (delay handle : Nat) (alt : Bool),
    p (s.withInert delay handle alt) = (p s).withInert delay handle alt

theorem Proc.andThen_withInert {α β : Type} {p q : Proc α} {f : α → State → Proc β} {delay handle : Nat} {alt : Bool}
    (hp : q = p.withInert delay handle alt) (hf : ∀ a, Blind (f a)) :
    q.andThen f = (p.andThen f).withInert delay handle alt := by
  subst hp
  cases p with
  | done a s => exact hf a s delay handle alt
  | raised x s => rfl

theorem Blind.andThen {α β : Type} {p : State → Proc α} {f : α → State → Proc β} (hp : Blind p)
    (hf : ∀ a, Blind (f a)) : Blind fun s => (p s).andThen f :=
  fun s delay handle alt => Proc.andThen_withInert (hp s delay handle alt) hf

/-- A choice made by a test that does not see the three fields. -/
theorem Blind.ite {α : Type} {test : State → Prop} [DecidablePred test] {p q : State → Proc α}
    (ht : ∀ s delay handle alt, test (s.withInert delay handle alt) ↔ test s) (hp : Blind p) (hq : Blind q) :
    Blind fun s => if test s then p s else q s := by
  intro s delay handle alt
  by_cases h : test s
  · simpa [h, ht] using hp s delay handle alt
  · simpa [h, ht] using hq s delay handle alt

theorem Blind.done {α : Type} {a : α} {f : State → State}
    (hf : ∀ s delay handle alt, f (s.withInert delay handle alt) = (f s).withInert delay handle alt) :
    Blind fun s => .done a (f s) :=
  fun s delay handle alt => congrArg (Proc.done a) (hf s delay handle alt)

theorem Blind.update {f : State → State}
    (hf : ∀ s delay handle alt, f (s.withInert delay handle alt) = (f s).withInert delay handle alt) :
    Blind (update f) := Blind.done hf

theorem Blind.onlyIf {test : State → Bool} {a : Action}
    (ht : ∀ s delay handle alt, test (s.withInert delay handle alt) = test s) (ha : Blind a) :
    Blind (onlyIf test a) :=
  Blind.ite (fun s delay handle alt => by rw [ht]) ha (Blind.done fun _ _ _ _ => rfl)

theorem Blind.noLines : Blind (runActions []) := fun _ _ _ _ => rfl

theorem Blind.lines {a : Action} {rest : List Action} (ha : Blind a) (hr : Blind (runActions rest)) :
    Blind (runActions (a :: rest)) := ha.andThen fun _ => hr

/-! ### The shared operations -/

/-- The poll counts reads up to `POLL_LIMIT` and tests them by `cap_busy_bit`; the delay between them is no part of it. -/
theorem poll_blind (k left : Nat) : Blind (poll k left) := by
  induction left with
  | zero => exact fun _ _ _ _ => rfl
  | succ left ih =>
    exact Blind.ite (fun _ _ _ _ => Iff.rfl) (Blind.done fun _ _ _ _ => rfl)
      fun s => ih (readVolatile .gcbStatus s).2

theorem writeProtected_blind (r : PlainReg) (v : Word) (k : Nat) : Blind (writeProtected r v k) :=
  fun s => poll_blind k s.cfg.pollLimit (writePlain r v s)

theorem rmwProtected_blind (r : PlainReg) (clr set : Word) (k : Nat) : Blind (rmwProtected r clr set k) :=
  fun s => writeProtected_blind r (((readPlain r s).1 &&& ~~~ clr) ||| set) k (readPlain r s).2

theorem settle_withInert (p : Proc Unit) (delay handle : Nat) (alt : Bool) :
    settle (p.withInert delay handle alt) = (settle p).withInert delay handle alt := by
  cases p with
  | done u s => rfl
  | raised x s => cases x <;> rfl

/-- A command whose procedure is blind answers alike, refusals included: `Config.wf` does not speak of the three
fields. -/
theorem runCommand_withInert {p : Action} (hp : Blind p) (s : State) (delay handle : Nat) (alt : Bool) :
    runCommand p (s.withInert delay handle alt) = outcomeWithInert (runCommand p s) delay handle alt := by
  cases h : s.cfg.wf with
  | false =>
    rw [runCommand_illFormed p h, runCommand_illFormed p (s := s.withInert delay handle alt) h]
    rfl
  | true =>
    have hsettle : settle (p (s.withInert delay handle alt).begin) = (settle (p s.begin)).withInert delay handle alt :=
      (congrArg settle (hp s.begin delay handle alt)).trans (settle_withInert _ delay handle alt)
    rw [runCommand_wf p h, runCommand_wf p (s := s.withInert delay handle alt) h, hsettle]
    rfl

/-! ### The procedures of the commands -/

theorem recordProbe_blind (p : Bool) (idx : BitVec 8) : Blind (recordProbe p idx) :=
  Blind.ite (fun _ _ _ _ => Iff.rfl) (Blind.done fun _ _ _ _ => rfl) fun _ _ _ _ => rfl

theorem selectWindow_blind : Blind selectWindow :=
  Blind.ite (fun _ _ _ _ => Iff.rfl) (fun _ _ _ _ => rfl) (Blind.done fun _ _ _ _ => rfl)

theorem tuneProc_blind : Blind tuneProc :=
  Blind.ite (fun _ _ _ _ => Iff.rfl) (fun s => selectWindow_blind (mergeBitmap s)) fun _ _ _ _ => rfl

theorem setTiming_blind (imm8 : BitVec 8) : Blind (setTiming imm8) :=
  Blind.ite (fun _ _ _ _ => Iff.rfl) (Blind.done fun _ _ _ _ => rfl) fun _ _ _ _ => rfl

theorem lookUp_blind (imm8 : BitVec 8) : Blind (lookUp imm8) := by
  intro s delay handle alt
  cases h : s.cfg.calibTable <;> simp only [lookUp, State.withInert_cfg_calibTable, h] <;> rfl

theorem writeCode_blind (t : CalibTable) (k0 : Nat) : Blind (writeCode t k0) := fun s delay handle alt =>
  Proc.andThen_withInert (writeProtected_blind .ctbMancal _ (k0 + 1) (readVolatile .ctbCalcode s).2 delay handle alt)
    fun _ => Blind.andThen (fun s1 => writeProtected_blind .ctbCalofs (.ofNat 32 s1.cfg.calibOffset) (k0 + 2) s1)
      fun _ => Blind.done fun _ _ _ _ => rfl

theorem mcalEnable_blind (k0 : Nat) : Blind (mcalEnable k0) := by
  intro s delay handle alt
  cases h : s.cfg.calibTable with
  | none => simp only [mcalEnable, State.withInert_cfg_calibTable, h]; rfl
  | some t =>
    simp only [mcalEnable, State.withInert_cfg_calibTable, h]
    exact Proc.andThen_withInert (writeProtected_blind .ctbWpunlock _ k0 s delay handle alt)
      fun _ => writeCode_blind t k0

theorem mcalDisable_blind (k0 : Nat) : Blind (mcalDisable k0) :=
  .lines (fun s => writeProtected_blind .ctbWpunlock s.cfg.wpUnlockCode k0 s) <|
  .lines (writeProtected_blind _ _ _) <|
  .lines (writeProtected_blind _ _ _) <|
  .lines (.update fun _ _ _ _ => rfl) .noLines

theorem mcalenProc_blind : Blind mcalenProc :=
  (mcalEnable_blind 1).andThen fun _ => Blind.done fun _ _ _ _ => rfl

theorem enterCalibration_blind : Blind enterCalibration :=
  (mcalEnable_blind 9).andThen fun _ => Blind.done fun _ _ _ _ => rfl

theorem hs4entProc_blind : Blind hs4entProc :=
  Blind.ite (fun _ _ _ _ => Iff.rfl) (fun _ _ _ _ => rfl) <|
  .lines (.update fun _ _ _ _ => rfl) <|
  .lines (rmwProtected_blind _ _ _ _) <|
  .lines (rmwProtected_blind _ _ _ _) <|
  .lines (fun s => writeProtected_blind _ s.cfg.tapposHs400 _ s) <|
  .lines (.onlyIf (fun _ _ _ _ => rfl) (rmwProtected_blind _ _ _ _)) <|
  .lines (rmwProtected_blind _ _ _ _) <|
  .lines (.onlyIf (fun _ _ _ _ => rfl) fun s => rmwProtected_blind _ _ (tapWord (s.cfg.n / 2)) _ s) <|
  .lines (.onlyIf (fun _ _ _ _ => rfl) fun s => writeProtected_blind _ (tapWord (s.tapSet.toNat / 2)) _ s) <|
  .lines (rmwProtected_blind _ _ _ _) <|
  .lines (.update fun _ _ _ _ => rfl) <|
  .lines (.onlyIf (fun _ _ _ _ => rfl) enterCalibration_blind) .noLines

theorem hs4extLines_blind : Blind (runActions hs4extLines) :=
  .lines (.onlyIf (fun _ _ _ _ => rfl) (mcalDisable_blind 1)) <|
  .lines (rmwProtected_blind _ _ _ _) <|
  .lines (.onlyIf (fun _ _ _ _ => rfl) fun s => rmwProtected_blind _ _ (tapWord s.cfg.n) _ s) <|
  .lines (.onlyIf (fun _ _ _ _ => rfl) fun s => writeProtected_blind _ (tapWord s.tapSet.toNat) _ s) <|
  .lines (rmwProtected_blind _ _ _ _) <|
  .lines (.onlyIf (fun _ _ _ _ => rfl) (rmwProtected_blind _ _ _ _)) <|
  .lines (fun s => writeProtected_blind _ s.cfg.tapposDefault _ s) <|
  .lines (rmwProtected_blind _ _ _ _) <|
  .lines (rmwProtected_blind _ _ _ _) <|
  .lines (.update fun _ _ _ _ => rfl) .noLines

theorem hwrstLines_blind : Blind (runActions hwrstLines) :=
  .lines (.onlyIf (fun _ _ _ _ => rfl) (mcalDisable_blind 1)) <|
  .lines (rmwProtected_blind _ _ _ _) <|
  .lines (.onlyIf (fun _ _ _ _ => rfl) fun s => rmwProtected_blind _ _ (tapWord s.cfg.n) _ s) <|
  .lines (writeProtected_blind _ _ _) <|
  .lines (rmwProtected_blind _ _ _ _) <|
  .lines (rmwProtected_blind _ _ _ _) <|
  .lines (fun s => writeProtected_blind _ s.cfg.tapposDefault _ s) <|
  .lines (rmwProtected_blind _ _ _ _) <|
  .lines (rmwProtected_blind _ _ _ _) <|
  .lines (.update fun _ _ _ _ => rfl) .noLines

/-! ### The drift check -/

/-- An event with the state after it, that state changed in the three fields. -/
def eventWithInert (x : DriftEvent × State) (delay handle : Nat) (alt : Bool) : DriftEvent × State :=
  (x.1, x.2.withInert delay handle alt)

theorem eventWithInert_ite (c : Prop) [Decidable c] (x y : DriftEvent × State) (delay handle : Nat) (alt : Bool) :
    eventWithInert (if c then x else y) delay handle alt =
      if c then eventWithInert x delay handle alt else eventWithInert y delay handle alt :=
  apply_ite (eventWithInert · delay handle alt) c x y

theorem autoBranch_withInert (s : State) (delay handle : Nat) (alt : Bool) :
    autoBranch (s.withInert delay handle alt) = eventWithInert (autoBranch s) delay handle alt := by
  simp only [autoBranch, eventWithInert_ite]
  rfl

theorem manualBranch_withInert (s : State) (delay handle : Nat) (alt : Bool) :
    manualBranch (s.withInert delay handle alt) = eventWithInert (manualBranch s) delay handle alt := by
  simp only [manualBranch, eventWithInert_ite]
  rfl

theorem adjust_withInert (ev : DriftEvent) (s : State) (delay handle : Nat) (alt : Bool) :
    adjust ev (s.withInert delay handle alt) = (adjust ev s).withInert delay handle alt := by
  cases ev <;> rfl

theorem manualCheck_withInert (s : State) (delay handle : Nat) (alt : Bool) :
    manualCheck (s.withInert delay handle alt) = eventWithInert (manualCheck s) delay handle alt := by
  simp only [manualCheck, manualBranch_withInert, eventWithInert, adjust_withInert]

theorem driftCheck_withInert (s : State) (delay handle : Nat) (alt : Bool) :
    driftCheck (s.withInert delay handle alt) = eventWithInert (driftCheck s) delay handle alt := by
  simp only [driftCheck, eventWithInert_ite, ← autoBranch_withInert, ← manualCheck_withInert]
  rfl

theorem driftProc_withInert (s : State) (delay handle : Nat) (alt : Bool) :
    driftProc (s.withInert delay handle alt) = (driftProc s).withInert delay handle alt := by
  simp only [driftProc, driftCheck_withInert]
  rfl

/-- No command's procedure sees `POLL_DELAY`, `dtranend_alt_bit` or the handle `PLAT`. -/
theorem procedureOf_blind (i : Instr) : Blind (procedureOf i) := by
  cases i with
  | nop => exact .update fun _ _ _ _ => rfl
  | tbegin => exact .update fun _ _ _ _ => rfl
  | probe p idx => exact recordProbe_blind p idx
  | ldbl imm16 => exact .update fun _ _ _ _ => rfl
  | ldbh imm16 => exact .update fun _ _ _ _ => rfl
  | tune => exact tuneProc_blind
  | settm imm8 => exact setTiming_blind imm8
  | drift => exact .update driftProc_withInert
  | hs4ent => exact hs4entProc_blind
  | hs4ext => exact hs4extLines_blind
  | hwrst => exact hwrstLines_blind
  | clkup imm8 => exact lookUp_blind imm8
  | mcalen => exact mcalenProc_blind
  | mcaldis => exact mcalDisable_blind 1

/-- Settles O58: every command is its procedure in the one frame, and every procedure is blind to the three fields. -/
theorem inertConfiguration : Obligations.InertConfiguration := by
  intro s i delay handle alt
  rw [exec_eq_runCommand, exec_eq_runCommand]
  exact runCommand_withInert (procedureOf_blind i) s delay handle alt

end Sys2Proof.Machine
end

section
/-! SUPPORT. What the lines of a procedure keep: a preorder on states that plain accesses, draws and polls respect is
respected by every protected write, and by the calibration and HS400 procedures built from them. -/

namespace Sys2Proof.Machine

open Sys2Proof

/-- A preorder on states that holds whatever happens to the target registers and the trace. -/
structure BusPreorder (R : State → State → Prop) : Prop where
  refl : ∀ s, R s s
  trans : ∀ s t u, R s t → R t u → R s u
  bus : ∀ s store sources trace, R s { s with store := store, sources := sources, trace := trace }

/-- A bus preorder that holds whatever happens to the two flags of the calibrator, too. -/
structure CalibPreorder (R : State → State → Prop) : Prop extends BusPreorder R where
  flags : ∀ s active needs, R s { s with mcalActive := active, needsAdjust := needs }

section
variable {R : State → State → Prop}

theorem BusPreorder.andThen (h : BusPreorder R) {α β : Type} {p : State → Proc α} {f : α → State → Proc β}
    (hp : ∀ s, R s (p s).state) (hf : ∀ a s, R s (f a s).state) (s : State) : R s ((p s).andThen f).state := by
  have hs := hp s
  cases hps : p s with
  | done a t =>
    rw [hps] at hs
    exact h.trans _ _ _ hs (hf a t)
  | raised x t => rwa [hps] at hs

theorem BusPreorder.lines (h : BusPreorder R) {l : List Action} (hl : ∀ a ∈ l, Respects R a) :
    Respects R (runActions l) := runActions_respects h.refl h.trans hl

theorem BusPreorder.onlyIf (h : BusPreorder R) {test : State → Bool} {a : Action} (ha : Respects R a) :
    Respects R (onlyIf test a) := onlyIf_respects h.refl ha

theorem BusPreorder.writeProtected (h : BusPreorder R) (r : PlainReg) (v : Word) (k : Nat) :
    Respects R (writeProtected r v k) := writeProtected_respects fun s _ => h.bus s _ _ _

theorem BusPreorder.rmwProtected (h : BusPreorder R) (r : PlainReg) (clr set : Word) (k : Nat) :
    Respects R (rmwProtected r clr set k) :=
  fun s => h.trans _ _ _ (h.bus s _ _ _) (h.writeProtected r _ k (readPlain r s).2)

/-! ### The calibrator and the HS400 sequences -/

theorem CalibPreorder.writeCode (h : CalibPreorder R) (t : CalibTable) (k0 : Nat) (s : State) :
    R s (writeCode t k0 s).state := by
  dsimp only [Machine.writeCode]
  refine h.trans _ _ _ (h.bus s _ _ _) (h.andThen (h.writeProtected .ctbMancal _ (k0 + 1)) (fun _ => ?_) _)
  exact h.andThen (fun s1 => h.writeProtected .ctbCalofs _ (k0 + 2) s1) fun _ s2 => h.flags s2 _ _

theorem CalibPreorder.mcalEnable (h : CalibPreorder R) (k0 : Nat) (s : State) : R s (mcalEnable k0 s).state := by
  unfold Machine.mcalEnable
  split
  · exact h.refl s
  · next t _ => exact h.andThen (h.writeProtected .ctbWpunlock _ k0) (fun _ => h.writeCode t k0) s

theorem CalibPreorder.mcalDisable (h : CalibPreorder R) (k0 : Nat) : Respects R (mcalDisable k0) :=
  h.lines <| by
    simp only [List.forall_mem_cons]
    exact ⟨fun s => h.writeProtected _ s.cfg.wpUnlockCode _ s, h.writeProtected _ _ _, h.writeProtected _ _ _,
      fun s => h.flags s _ _, nofun⟩

theorem CalibPreorder.enterCalibration (h : CalibPreorder R) : Respects R enterCalibration :=
  h.andThen (h.mcalEnable 9) fun _ => h.refl

theorem CalibPreorder.hs4entLines (h : CalibPreorder R) : Respects R (runActions hs4entLines) :=
  h.lines <| by
    simp only [Machine.hs4entLines, List.forall_mem_cons]
    exact ⟨fun s => h.bus s _ _ _, h.rmwProtected _ _ _ _, h.rmwProtected _ _ _ _,
      fun s => h.writeProtected _ s.cfg.tapposHs400 _ s, h.onlyIf (h.rmwProtected _ _ _ _), h.rmwProtected _ _ _ _,
      h.onlyIf fun s => h.rmwProtected _ _ (tapWord (s.cfg.n / 2)) _ s,
      h.onlyIf fun s => h.writeProtected _ (tapWord (s.tapSet.toNat / 2)) _ s, h.rmwProtected _ _ _ _,
      fun s => h.flags s s.mcalActive _, h.onlyIf h.enterCalibration, nofun⟩

theorem CalibPreorder.hs4entProc (h : CalibPreorder R) : Respects R hs4entProc := by
  intro s
  unfold Machine.hs4entProc
  split
  · exact h.refl s
  · exact h.hs4entLines s

theorem CalibPreorder.hs4extLines (h : CalibPreorder R) : Respects R (runActions hs4extLines) :=
  h.lines <| by
    simp only [Machine.hs4extLines, List.forall_mem_cons]
    exact ⟨h.onlyIf (h.mcalDisable 1), h.rmwProtected _ _ _ _,
      h.onlyIf fun s => h.rmwProtected _ _ (tapWord s.cfg.n) _ s,
      h.onlyIf fun s => h.writeProtected _ (tapWord s.tapSet.toNat) _ s, h.rmwProtected _ _ _ _,
      h.onlyIf (h.rmwProtected _ _ _ _), fun s => h.writeProtected _ s.cfg.tapposDefault _ s,
      h.rmwProtected _ _ _ _, h.rmwProtected _ _ _ _, fun s => h.bus s _ _ _, nofun⟩

/-- HWRST adds its internal resets to what the calibrator and the bus do. -/
theorem CalibPreorder.hwrstLines (h : CalibPreorder R) (hbase : ∀ s, R s (baseline s)) :
    Respects R (runActions hwrstLines) :=
  h.lines <| by
    simp only [Machine.hwrstLines, List.forall_mem_cons]
    exact ⟨h.onlyIf (h.mcalDisable 1), h.rmwProtected _ _ _ _,
      h.onlyIf fun s => h.rmwProtected _ _ (tapWord s.cfg.n) _ s, h.writeProtected _ _ _, h.rmwProtected _ _ _ _,
      h.rmwProtected _ _ _ _, fun s => h.writeProtected _ s.cfg.tapposDefault _ s, h.rmwProtected _ _ _ _,
      h.rmwProtected _ _ _ _, hbase, nofun⟩

end

/-! ### What each command may write -/

/-- `s` with what every command may write taken from `t`: the outcome, the sticky bits, the target registers and the
trace (60_exceptions.md R215). -/
def State.reportOf (s t : State) : State :=
  { s with
    err := t.err, resultVal := t.resultVal, resultFstep := t.resultFstep, stkTimeout := t.stkTimeout
    stkIllegal := t.stkIllegal, store := t.store, sources := t.sources, trace := t.trace }

/-- `s` with the window copy of `t`. -/
def State.windowOf (s t : State) : State :=
  { s with winStart := t.winStart, winEnd := t.winEnd, winLen := t.winLen, winValid := t.winValid }

/-- `s` with what command `i` may write taken from `t` (10_state.md R21 to R31). -/
def frameOf : Instr → State → State → State
  | .nop, s, t | .clkup _, s, t => s.reportOf t
  | .tbegin, s, t => { (s.reportOf t).windowOf t with bitmap := t.bitmap, tuningActive := t.tuningActive }
  | .probe _ _, s, t | .ldbl _, s, t | .ldbh _, s, t => { s.reportOf t with bitmap := t.bitmap }
  | .tune, s, t =>
    { (s.reportOf t).windowOf t with bitmap := t.bitmap, tapSet := t.tapSet, tuningActive := t.tuningActive }
  | .settm _, s, t => { s.reportOf t with timing := t.timing }
  | .drift, s, t => { s.reportOf t with tapSet := t.tapSet, driftEv := t.driftEv }
  | .hs4ent, s, t | .hs4ext, s, t | .mcalen, s, t | .mcaldis, s, t =>
    { s.reportOf t with mcalActive := t.mcalActive, needsAdjust := t.needsAdjust }
  | .hwrst, s, t =>
    { (s.reportOf t).windowOf t with
      bitmap := t.bitmap, tapSet := t.tapSet, tuningActive := t.tuningActive, driftEv := t.driftEv
      mcalActive := t.mcalActive, needsAdjust := t.needsAdjust }

/-- `t` differs from `s` in nothing but what command `i` may write. -/
def WithinFrame (i : Instr) (s t : State) : Prop := t = frameOf i s t

theorem WithinFrame.busPreorder (i : Instr) : BusPreorder (WithinFrame i) where
  refl s := by cases i <;> rfl
  trans s t u hst htu := by
    unfold WithinFrame at *
    rw [hst] at htu
    cases i <;> exact htu
  bus s _ _ _ := by cases i <;> rfl

theorem WithinFrame.report (i : Instr) (s t : State) : WithinFrame i s (s.reportOf t) := by cases i <;> rfl

theorem takeRaise_eq_reportOf (x : Raise) (s : State) : takeRaise x s = s.reportOf (takeRaise x s) := by
  cases x <;> rfl

theorem autoBranch_eq_reportOf (s : State) : (autoBranch s).2 = s.reportOf (autoBranch s).2 := by
  dsimp only [autoBranch]
  split <;> rfl

theorem manualBranch_eq_reportOf (s : State) : (manualBranch s).2 = s.reportOf (manualBranch s).2 := by
  dsimp only [manualBranch]
  split <;> rfl

theorem WithinFrame.adjust (ev : DriftEvent) (s : State) : WithinFrame .drift s (adjust ev s) := by
  cases ev <;> rfl

theorem WithinFrame.driftCheck (s : State) : WithinFrame .drift s (driftCheck s).2 := by
  have h := WithinFrame.busPreorder .drift
  have hread : WithinFrame .drift s (readPlain .ctbRvscntl s).2 := h.bus s _ _ _
  dsimp only [Machine.driftCheck]
  split
  · split
    · refine h.trans _ _ _ hread ?_
      rw [autoBranch_eq_reportOf]
      exact .report _ _ _
    · refine h.trans _ _ _ hread (h.trans _ _ _ ?_ (.adjust _ _))
      rw [manualBranch_eq_reportOf]
      exact .report _ _ _
  · exact h.refl s

theorem procedureOf_withinFrame (i : Instr) : Respects (WithinFrame i) (procedureOf i) := by
  have h := WithinFrame.busPreorder i
  have calib (hi : ∀ s active needs, WithinFrame i s { s with mcalActive := active, needsAdjust := needs }) :
      CalibPreorder (WithinFrame i) := { h with flags := hi }
  intro s
  cases i with
  | nop | tbegin | ldbl | ldbh => rfl
  | probe p idx => dsimp only [procedureOf, recordProbe]; split <;> rfl
  | tune => dsimp only [procedureOf, tuneProc, selectWindow]; split <;> [split <;> rfl; rfl]
  | settm imm8 => dsimp only [procedureOf, setTiming]; split <;> rfl
  | drift => exact h.trans _ _ _ (WithinFrame.driftCheck s) rfl
  | hs4ent => exact (calib fun _ _ _ => rfl).hs4entProc s
  | hs4ext => exact (calib fun _ _ _ => rfl).hs4extLines s
  | hwrst => exact (calib fun _ _ _ => rfl).hwrstLines (fun _ => rfl) s
  | clkup imm8 => dsimp only [procedureOf, lookUp]; split <;> rfl
  | mcalen =>
    dsimp only [procedureOf, mcalenProc]
    refine h.andThen ((calib fun _ _ _ => rfl).mcalEnable 1) (fun _ _ => ?_) s
    rfl
  | mcaldis => exact (calib fun _ _ _ => rfl).mcalDisable 1 s

/-- A command changes nothing but what it may write. -/
theorem exec_withinFrame {i : Instr} {s t : State} (h : exec i s = .next t) : t = frameOf i s t :=
  exec_respects (R := WithinFrame i) (WithinFrame.busPreorder i).trans (fun s => .report i s s.begin)
    (fun x s => by rw [takeRaise_eq_reportOf]; exact .report i s _) (procedureOf_withinFrame i) h

/-- Settles O52: a command changes nothing outside its frame, and the frame of a command that is not among the writers
of an element leaves that element out. -/
theorem writersOfState : Obligations.WritersOfState := by
  intro s t i h
  rw [exec_withinFrame h]
  cases i <;> simp [Instr.mnemonic, frameOf, State.reportOf, State.windowOf]

/-! ### The configuration -/

theorem exec_cfg {i : Instr} {s t : State} (h : exec i s = .next t) : t.cfg = s.cfg := by
  rw [exec_withinFrame h]
  cases i <;> rfl

theorem execIllegal_next {s t : State} (h : execIllegal s = .next t) : t = takeRaise .illegalCommand s.begin :=
  (runCommand_next h).2

theorem busWrite_cfg (r : Target) (v : Word) (s : State) : (busWrite r v s).cfg = s.cfg := by cases r <;> rfl

theorem busRead_cfg (r : Target) (s : State) : (busRead r s).cfg = s.cfg := by cases r <;> rfl

theorem perform_cfg {m : Move} {s t : State} (h : perform m s = .next t) : t.cfg = s.cfg := by
  rcases perform_next h with ⟨_, _, _, _, he⟩ | ⟨_, _, _, _, he⟩ | ⟨_, _, _, _, rfl⟩ | ⟨_, _, rfl⟩ | ⟨r, v, _, rfl⟩ |
    ⟨r, _, rfl⟩ | ⟨_, rfl⟩
  · exact exec_cfg he
  · rw [execIllegal_next he]
    rfl
  · rfl
  · rfl
  · exact busWrite_cfg r v s
  · exact busRead_cfg r s
  · rfl

/-- Settles O54: no move of the outside world writes the configuration, a command among them. -/
theorem configNeverChanges : Obligations.ConfigNeverChanges := by
  intro s t h
  obtain ⟨_, ⟨_, rfl⟩ | ⟨m, rest, _, hm⟩⟩ := step_next h
  · rfl
  · exact (perform_cfg hm :)

end Sys2Proof.Machine
end

section
/-! SUPPORT. The invariants of the state (10_state.md R57): what the operations on the bitmap, the window and the tap
keep, and from that what every command and every step keeps. -/

namespace Sys2Proof.Machine

open Sys2Proof

/-! ### The bounds of a well-formed configuration -/

theorem Config.tapCount_of_wf {c : Config} (h : c.wf = true) : 1 ≤ c.n ∧ c.n ≤ 16 := by
  simp only [Config.wf, Config.tapCountOk, Bool.and_eq_true, decide_eq_true_eq] at h
  omega

theorem Config.calibOffset_of_wf {c : Config} (h : c.wf = true) : c.calibOffset ≤ 3 := by
  simp only [Config.wf, Config.offsetOk, Bool.and_eq_true, decide_eq_true_eq] at h
  omega

/-! ### Merge -/

/-- An iteration of Merge puts the conjunction of both trials of its tap at both of them (43_window_selector.md
R150). -/
theorem mergeTap_getLsbD {n i : Nat} (hi : i < n) (hn : n ≤ 16) (b : Word) (j : Nat) :
    (mergeTap n i b).getLsbD j =
      if j = i ∨ j = i + n then b.getLsbD i && b.getLsbD (i + n) else b.getLsbD j := by
  unfold mergeTap
  split
  · next h =>
    rw [Bool.and_eq_true] at h
    split
    · next hj => rcases hj with rfl | rfl <;> simp [h]
    · rfl
  · next h =>
    rw [setBit_getLsbD _ _ _ _ (by omega), setBit_getLsbD _ _ _ _ (by omega), eq_false_of_ne_true h]
    by_cases hi' : j = i <;> by_cases hin : j = i + n <;> simp [hi', hin]

/-- After `k` iterations of Merge the trials of the taps below `k` are conjunctions, and every other bit is as it was. -/
theorem mergeFirst_getLsbD {n k : Nat} (hk : k ≤ n) (hn : n ≤ 16) (b : Word) (j : Nat) :
    (mergeFirst n k b).getLsbD j =
      if j < k then b.getLsbD j && b.getLsbD (j + n)
      else if n ≤ j ∧ j < n + k then b.getLsbD (j - n) && b.getLsbD j
      else b.getLsbD j := by
  induction k generalizing j with
  | zero => rw [mergeFirst, if_neg (by omega), if_neg (by omega)]
  | succ i ih =>
    have hlow : (mergeFirst n i b).getLsbD i = b.getLsbD i := by
      rw [ih (by omega), if_neg (by omega), if_neg (by omega)]
    have hhigh : (mergeFirst n i b).getLsbD (i + n) = b.getLsbD (i + n) := by
      rw [ih (by omega), if_neg (by omega), if_neg (by omega)]
    rw [mergeFirst, mergeTap_getLsbD (by omega) hn, hlow, hhigh]
    rcases eq_or_ne j i with rfl | hji
    · simp
    · rcases eq_or_ne j (i + n) with rfl | hjn
      · rw [if_pos (.inr rfl), if_neg (by omega), if_pos (by omega), Nat.add_sub_cancel]
      · have hlt : j < i + 1 ↔ j < i := by omega
        have hlt' : j < n + (i + 1) ↔ j < n + i := by omega
        rw [if_neg (by simp [hji, hjn]), ih (by omega)]
        simp only [hlt, hlt']

theorem merge_getLsbD_low {n i : Nat} (hi : i < n) (hn : n ≤ 16) (b : Word) :
    (merge n b).getLsbD i = (b.getLsbD i && b.getLsbD (i + n)) := by
  simp [merge, mergeFirst_getLsbD le_rfl hn, hi]

theorem merge_getLsbD_high {n i : Nat} (hi : i < n) (hn : n ≤ 16) (b : Word) :
    (merge n b).getLsbD (i + n) = (b.getLsbD i && b.getLsbD (i + n)) := by
  simp [merge, mergeFirst_getLsbD le_rfl hn, hi]

theorem merge_getLsbD_past {n j : Nat} (hj : 2 * n ≤ j) (hn : n ≤ 16) (b : Word) :
    (merge n b).getLsbD j = b.getLsbD j := by
  rw [merge, mergeFirst_getLsbD le_rfl hn, if_neg (by omega), if_neg (by omega)]

theorem merge_mirrored {n : Nat} (hn : n ≤ 16) (b : Word) : Mirrored n (merge n b) := fun i hi => by
  rw [merge_getLsbD_low hi hn, merge_getLsbD_high hi hn]

/-! ### Loading half of the bitmap -/

theorem loadBits_getLsbD_past {n base : Nat} (hn : n ≤ 16) (imm16 : BitVec 16) (count : Nat) (b : Word) {j : Nat}
    (hj : 2 * n ≤ j) : (loadBits n base imm16 count b).getLsbD j = b.getLsbD j := by
  induction count with
  | zero => rfl
  | succ k ih =>
    dsimp only [loadBits]
    split
    · rw [setBit_getLsbD _ _ _ _ (by omega), if_neg (by omega), ih]
    · exact ih

/-! ### The scan -/

/-- What the scan of LongestRun keeps after the indices below `count` (43_window_selector.md R151): the best run lies below
`count` with the length recorded, and the current run ends right before `count`. -/
structure Scan.Sound (a : Scan) (count : Nat) : Prop where
  best : 0 < a.bestLen → a.bestEnd + 1 = a.bestStart + a.bestLen ∧ a.bestEnd < count
  current : 0 < a.curLen → a.curStart + a.curLen = count

/-- Recording the current run, at the index it ends at, keeps the best run sound. -/
theorem Scan.Sound.record {a : Scan} {count : Nat} (h : a.Sound count) :
    0 < (a.record (count - 1)).bestLen →
      (a.record (count - 1)).bestEnd + 1 = (a.record (count - 1)).bestStart + (a.record (count - 1)).bestLen ∧
        (a.record (count - 1)).bestEnd < count := by
  obtain ⟨hbest, hcur⟩ := h
  unfold Scan.record
  split
  · dsimp only
    omega
  · exact hbest

theorem Scan.Sound.next {a : Scan} {i : Nat} (h : a.Sound i) (bit : Bool) : (a.next i bit).Sound (i + 1) := by
  cases bit with
  | true =>
    obtain ⟨hbest, hcur⟩ := h
    constructor
    · simp only [Scan.next, if_true]
      omega
    · simp only [Scan.next, if_true]
      split <;> omega
  | false =>
    have hrec := h.record
    constructor
    · simp only [Scan.next, Bool.false_eq_true, if_false]
      omega
    · simp [Scan.next]

theorem scanBits_sound (m : Word) (count : Nat) : (scanBits m count).Sound count := by
  induction count with
  | zero => exact ⟨by simp [scanBits], by simp [scanBits]⟩
  | succ i ih => exact ih.next _

/-- A run that LongestRun returns lies below `2N`, and its length is the number of its indices. -/
theorem longestRun_sound {n : Nat} {m : Word} (h : 0 < (longestRun n m).len) :
    (longestRun n m).last + 1 = (longestRun n m).start + (longestRun n m).len ∧ (longestRun n m).last < 2 * n :=
  (scanBits_sound m (2 * n)).record h

/-! ### Taps -/

theorem selectTap_lt {n : Nat} (hn : 0 < n) (w : TapWindow) : selectTap n w < n := Nat.mod_lt _ hn

theorem tapAbove_lt {n : Nat} (hn : 0 < n) (t : Nat) : tapAbove n t < n := Nat.mod_lt _ hn

theorem tapBelow_lt {n : Nat} (hn : 0 < n) (t : Nat) : tapBelow n t < n := Nat.mod_lt _ hn

/-- A tap below `N` fits `tap_set`. -/
theorem tap_toNat {n t : Nat} (hn : n ≤ 16) (ht : t < n) : (BitVec.ofNat 8 t).toNat = t := by
  rw [BitVec.toNat_ofNat]
  omega

/-! ### What keeps the invariant -/

/-- The part of the state that the invariant speaks of. -/
def State.invariantPart (s : State) : Config × Octet × Word × Octet × Octet × Octet × Bool :=
  (s.cfg, s.tapSet, s.bitmap, s.winStart, s.winEnd, s.winLen, s.winValid)

theorem State.Inv.congr {s t : State} (hs : s.Inv) (h : t.invariantPart = s.invariantPart) : t.Inv := by
  simp only [State.invariantPart, Prod.mk.injEq] at h
  obtain ⟨hcfg, htap, hmap, hstart, hend, hlen, hvalid⟩ := h
  exact ⟨by rw [hcfg]; exact hs.cfgWf, by rw [State.TapInRange, hcfg, htap]; exact hs.tapInRange,
    by rw [State.BitmapInRange, hcfg, hmap]; exact hs.bitmapInRange,
    by rw [State.WindowSound, hcfg, hstart, hend, hlen, hvalid]; exact hs.windowSound⟩

/-- `t` has the invariant if `s` has it. -/
def KeepsInv (s t : State) : Prop := s.Inv → t.Inv

theorem keepsInv_of_eq {s t : State} (h : t.invariantPart = s.invariantPart) : KeepsInv s t := fun hs => hs.congr h

theorem keepsInv_trans {s t u : State} (hst : KeepsInv s t) (htu : KeepsInv t u) : KeepsInv s u := htu ∘ hst

theorem keepsInv_calibPreorder : CalibPreorder KeepsInv where
  refl _ := id
  trans _ _ _ := keepsInv_trans
  bus _ _ _ _ := keepsInv_of_eq rfl
  flags _ _ _ := keepsInv_of_eq rfl

theorem takeRaise_keepsInv (x : Raise) (s : State) : KeepsInv s (takeRaise x s) :=
  keepsInv_of_eq (by cases x <;> rfl)

theorem clearWindow_keepsInv (s : State) : KeepsInv s s.clearWindow :=
  fun hs => ⟨hs.cfgWf, hs.tapInRange, hs.bitmapInRange, by simp [State.WindowSound]⟩

/-- A bitmap with no bit from `2N` up keeps the invariant. -/
theorem bitmap_keepsInv {s : State} {b : Word} (hb : s.Inv → ∀ i, 2 * s.cfg.n ≤ i → b.getLsbD i = false) :
    KeepsInv s { s with bitmap := b } :=
  fun hs => ⟨hs.cfgWf, hs.tapInRange, hb hs, hs.windowSound⟩

/-- A tap below `N` keeps the invariant. -/
theorem tapSet_keepsInv {s : State} {t : Nat} (ht : 0 < s.cfg.n → t < s.cfg.n) :
    KeepsInv s { s with tapSet := BitVec.ofNat 8 t } := by
  intro hs
  obtain ⟨hpos, hn⟩ := Config.tapCount_of_wf hs.cfgWf
  exact ⟨hs.cfgWf, by rw [State.TapInRange, tap_toNat hn (ht hpos)]; exact ht hpos, hs.bitmapInRange, hs.windowSound⟩

/-- A window that LongestRun returned, at least three long, keeps the invariant. -/
theorem recordWindow_keepsInv {s : State} {m : Word} (h : minRun ≤ (longestRun s.cfg.n m).len) :
    KeepsInv s (s.recordWindow (longestRun s.cfg.n m)) := by
  intro hs
  obtain ⟨_, hn⟩ := Config.tapCount_of_wf hs.cfgWf
  rw [minRun] at h
  obtain ⟨hlast, hlt⟩ := longestRun_sound (n := s.cfg.n) (m := m) (by omega)
  refine ⟨hs.cfgWf, hs.tapInRange, hs.bitmapInRange, fun _ => ?_⟩
  simp only [State.recordWindow_winLen, State.recordWindow_winEnd, State.recordWindow_winStart,
    State.recordWindow_cfg, BitVec.toNat_ofNat]
  omega

/-- The baseline of HWRST and of the power-on reset: everything at zero. -/
theorem zero_inv {s : State} (hcfg : s.cfg.wf = true) (htap : s.tapSet = 0) (hmap : s.bitmap = 0)
    (hvalid : s.winValid = false) : s.Inv where
  cfgWf := hcfg
  tapInRange := by
    have := (Config.tapCount_of_wf hcfg).1
    simp [State.TapInRange, htap]
    omega
  bitmapInRange i _ := by simp [hmap]
  windowSound := by simp [State.WindowSound, hvalid]

/-! ### The commands -/

theorem tuningBegin_keepsInv (s : State) : KeepsInv s (tuningBegin s) :=
  keepsInv_trans (clearWindow_keepsInv s) <|
    keepsInv_trans (bitmap_keepsInv (b := 0) fun _ _ _ => by simp) (keepsInv_of_eq rfl)

theorem recordProbe_keepsInv (p : Bool) (idx : BitVec 8) : Respects KeepsInv (recordProbe p idx) := by
  intro s
  unfold recordProbe
  split
  · next hidx =>
    refine bitmap_keepsInv fun hs i hi => ?_
    have hn := (Config.tapCount_of_wf hs.cfgWf).2
    rw [setBit_getLsbD _ _ _ _ (by omega), if_neg (by omega)]
    exact hs.bitmapInRange i hi
  · exact id

theorem loadHalf_keepsInv (base : Nat) (imm16 : BitVec 16) (s : State) : KeepsInv s (loadHalf base imm16 s) :=
  bitmap_keepsInv fun hs i hi => by
    rw [loadBits_getLsbD_past (Config.tapCount_of_wf hs.cfgWf).2 _ _ _ hi]
    exact hs.bitmapInRange i hi

theorem mergeBitmap_keepsInv (s : State) : KeepsInv s (mergeBitmap s) :=
  bitmap_keepsInv fun hs i hi => by
    rw [merge_getLsbD_past hi (Config.tapCount_of_wf hs.cfgWf).2]
    exact hs.bitmapInRange i hi

theorem programTap_keepsInv {s : State} {t : Nat} (ht : 0 < s.cfg.n → t < s.cfg.n) : KeepsInv s (programTap t s) :=
  keepsInv_trans (tapSet_keepsInv ht) (keepsInv_of_eq rfl)

theorem rejectWindow_keepsInv (s : State) : KeepsInv s (rejectWindow s) :=
  keepsInv_trans (clearWindow_keepsInv s) (keepsInv_of_eq rfl)

theorem acceptWindow_keepsInv {s : State} (h : minRun ≤ (longestRun s.cfg.n s.bitmap).len) :
    KeepsInv s (acceptWindow (longestRun s.cfg.n s.bitmap) s) :=
  keepsInv_trans (programTap_keepsInv fun hn => selectTap_lt hn _) <|
    keepsInv_trans (recordWindow_keepsInv (m := s.bitmap) h) (keepsInv_of_eq rfl)

theorem selectWindow_keepsInv : Respects KeepsInv selectWindow := by
  intro s
  dsimp only [selectWindow]
  split
  · exact rejectWindow_keepsInv s
  · next h => exact acceptWindow_keepsInv (Nat.le_of_not_lt h)

theorem tuneProc_keepsInv : Respects KeepsInv tuneProc := by
  intro s
  unfold tuneProc
  split
  · exact keepsInv_trans (mergeBitmap_keepsInv s) (selectWindow_keepsInv _)
  · exact id

theorem moveTap_keepsInv {s : State} {t : Nat} (ht : 0 < s.cfg.n → t < s.cfg.n) : KeepsInv s (moveTap t s) :=
  keepsInv_trans (tapSet_keepsInv ht) (keepsInv_of_eq rfl)

theorem adjust_keepsInv (ev : DriftEvent) (s : State) : KeepsInv s (adjust ev s) := by
  cases ev with
  | noError | retuneRequired => exact id
  | tapUp => exact moveTap_keepsInv fun hn => tapAbove_lt hn _
  | tapDown => exact moveTap_keepsInv fun hn => tapBelow_lt hn _

theorem reportOf_keepsInv (s t : State) : KeepsInv s (s.reportOf t) := keepsInv_of_eq rfl

theorem driftCheck_keepsInv (s : State) : KeepsInv s (driftCheck s).2 := by
  have hread : KeepsInv s (readPlain .ctbRvscntl s).2 := keepsInv_of_eq rfl
  dsimp only [driftCheck]
  split
  · split
    · rw [autoBranch_eq_reportOf]
      exact keepsInv_trans hread (reportOf_keepsInv _ _)
    · refine keepsInv_trans hread (keepsInv_trans ?_ (adjust_keepsInv _ _))
      rw [manualBranch_eq_reportOf]
      exact reportOf_keepsInv _ _
  · exact id

theorem baseline_keepsInv (s : State) : KeepsInv s (baseline s) := fun hs => zero_inv hs.cfgWf rfl rfl rfl

theorem procedureOf_keepsInv (i : Instr) : Respects KeepsInv (procedureOf i) := by
  have h := keepsInv_calibPreorder
  intro s
  cases i with
  | nop => exact id
  | tbegin => exact tuningBegin_keepsInv s
  | probe p idx => exact recordProbe_keepsInv p idx s
  | ldbl imm16 => exact loadHalf_keepsInv 0 imm16 s
  | ldbh imm16 => exact loadHalf_keepsInv 16 imm16 s
  | tune => exact tuneProc_keepsInv s
  | drift => exact keepsInv_trans (driftCheck_keepsInv s) (keepsInv_of_eq rfl)
  | hs4ent => exact h.hs4entProc s
  | hs4ext => exact h.hs4extLines s
  | hwrst => exact h.hwrstLines baseline_keepsInv s
  | mcaldis => exact h.mcalDisable 1 s
  | mcalen =>
    dsimp only [procedureOf, mcalenProc]
    exact h.andThen (h.mcalEnable 1) (fun _ _ => keepsInv_of_eq rfl) s
  | settm | clkup =>
    refine keepsInv_of_eq ?_
    dsimp only [procedureOf, setTiming, lookUp]
    split <;> rfl

theorem exec_keepsInv {i : Instr} {s t : State} (h : exec i s = .next t) : KeepsInv s t :=
  exec_respects keepsInv_calibPreorder.trans (fun _ => keepsInv_of_eq rfl) takeRaise_keepsInv
    (procedureOf_keepsInv i) h

/-! ### The steps -/

theorem perform_keepsInv {m : Move} {s t : State} (h : perform m s = .next t) : KeepsInv s t := by
  rcases perform_next h with ⟨_, _, _, _, he⟩ | ⟨_, _, _, _, he⟩ | ⟨_, _, _, _, rfl⟩ | ⟨_, _, rfl⟩ | ⟨r, v, _, rfl⟩ |
    ⟨r, _, rfl⟩ | ⟨_, rfl⟩
  · exact exec_keepsInv he
  · rw [execIllegal_next he]
    exact keepsInv_of_eq rfl
  · exact id
  · exact keepsInv_of_eq rfl
  · exact keepsInv_of_eq (by cases r <;> rfl)
  · exact keepsInv_of_eq (by cases r <;> rfl)
  · exact fun hs => zero_inv hs.cfgWf rfl rfl rfl

/-- Settles O55: every move of the outside world keeps the invariant, each command because its procedure does. -/
theorem stepKeepsInvariant : Obligations.StepKeepsInvariant := by
  intro s t hs h
  obtain ⟨_, ⟨_, rfl⟩ | ⟨m, rest, _, hm⟩⟩ := step_next h
  · exact hs
  · exact perform_keepsInv hm (hs.congr rfl)

/-- Settles O56: after reset the tap, the bitmap and the window copy are zero. -/
theorem resetHasInvariant : Obligations.ResetHasInvariant := by
  have hreset (c : Config) (hc : c.wf = true) : (State.resetWith c).Inv := zero_inv hc rfl rfl rfl
  exact ⟨hreset, hreset Config.fixture (by decide)⟩

/-! ### The merged bitmap -/

/-- A TUNE that is not refused leaves the merged bitmap, whether or not it finds a window (43_window_selector.md R155). -/
theorem execTune_bitmap {s t : State} (h : exec .tune s = .next t) (he : s.cfg.tuningEnabled = true) :
    t.bitmap = merge s.cfg.n s.bitmap := by
  obtain ⟨_, rfl⟩ := exec_next h
  have hp : procedureOf .tune s.begin = selectWindow (mergeBitmap s.begin) := if_pos he
  rw [hp]
  dsimp only [selectWindow]
  split <;> rfl

/-- Settles O28: the bitmap after such a TUNE is the merged one, whose two trials of every tap agree. -/
theorem tuneLeavesMirroredBitmap : Obligations.TuneLeavesMirroredBitmap := by
  intro s t h he
  rw [execTune_bitmap h he, exec_cfg h]
  exact merge_mirrored (Config.tapCount_of_wf (exec_next h).1).2 s.bitmap

end Sys2Proof.Machine
end

section
/-! SUPPORT. The host port (10_state.md R34 to R40): which move is taken, what a defined access answers, and the fields of
the words that reads return. -/

namespace Sys2Proof.Machine

open Sys2Proof

/-! ### Steps that take a host access -/

section
variable {s : State} {rest : List Move}

theorem step_performs {m : Move} (hwf : s.cfg.wf = true) (hm : s.inbox = m :: rest) :
    step s = perform m { s with inbox := rest } := by
  rw [step_wf hwf, takeMove, hm]

theorem accessDefined_iff (offset width : Nat) : accessDefined offset width = true ↔ width = 4 ∧ offset % 4 = 0 := by
  simp [accessDefined]

/-- A defined read answers the register's word and changes nothing else (R34, R36 to R40). -/
theorem step_hostRead {offset : Nat} (hwf : s.cfg.wf = true) (hm : s.inbox = .hostRead offset 4 :: rest)
    (ho : offset % 4 = 0) : step s = .next { s with inbox := rest, readData := portRead offset s } := by
  rw [step_performs hwf hm]
  exact if_pos ((accessDefined_iff _ _).mpr ⟨rfl, ho⟩)

/-- A defined write anywhere but at CMD is ignored (R34). -/
theorem step_hostWrite_ignored {offset : Nat} {value : Word} (hwf : s.cfg.wf = true)
    (hm : s.inbox = .hostWrite offset 4 value :: rest) (ho : offset % 4 = 0) (h0 : offset ≠ 0) :
    step s = .next { s with inbox := rest } := by
  rw [step_performs hwf hm]
  exact (if_pos ((accessDefined_iff _ _).mpr ⟨rfl, ho⟩)).trans (if_neg h0)

/-- A write of a word to CMD delivers it (R35). -/
theorem step_hostWrite_cmd {w : Word} (hwf : s.cfg.wf = true) (hm : s.inbox = .hostWrite 0x00 4 w :: rest) :
    step s = deliver w { s with inbox := rest } := by
  rw [step_performs hwf hm]
  rfl

/-- An access of another width or alignment is refused (20_memory.md R61). -/
theorem step_undefinedAccess {offset width : Nat} {value : Word} (hwf : s.cfg.wf = true)
    (hm : s.inbox = .hostRead offset width :: rest ∨ s.inbox = .hostWrite offset width value :: rest)
    (hbad : width ≠ 4 ∨ offset % 4 ≠ 0) : step s = .refused .hostAccess := by
  have hdef : ¬ accessDefined offset width = true := by
    rw [accessDefined_iff]
    omega
  rcases hm with hm | hm <;> rw [step_performs hwf hm] <;> exact if_neg hdef

end

theorem deliver_legal {w : Word} {i : Instr} (h : decode w = .ok i) (s : State) : deliver w s = exec i s := by
  simp only [deliver, h]

/-- CMD and the unmapped offsets read 0 (R34). -/
theorem portRead_other {offset : Nat} (ho : offset % 4 = 0) (h : offset = 0 ∨ 0x18 ≤ offset) (s : State) :
    portRead offset s = 0 := by
  unfold portRead
  iterate 5 rw [if_neg (by omega)]

/-- Settles O6: the step takes the write, and the word it delivers is legal. -/
theorem stepRunsDecodedCommand : Obligations.StepRunsDecodedCommand := by
  intro s w rest i hwf hm hd
  rw [step_hostWrite_cmd hwf hm, deliver_legal hd]

/-- Settles O8, by the three lemmas on reads, ignored writes and undefined accesses. -/
theorem otherHostAccesses : Obligations.OtherHostAccesses := by
  intro s offset width value rest hwf
  refine ⟨?_, ?_, fun hm hbad => step_undefinedAccess hwf hm hbad⟩
  · rintro hm rfl ho h
    rw [step_hostRead hwf hm ho, portRead_other ho h]
  · rintro hm rfl ho h0
    exact step_hostWrite_ignored hwf hm ho h0

/-! ### Fields at their places -/

/-- A field is read back at its own place. -/
theorem extractLsb'_placed_same {lo width : Nat} (v : BitVec width) (h : lo + width ≤ 32) :
    (placed lo v).extractLsb' lo width = v := by
  apply BitVec.eq_of_getLsbD_eq
  intro j hj
  rw [BitVec.getLsbD_extractLsb', placed_getLsbD _ _ _ (by omega)]
  simp [hj]

/-- A field leaves the places before and after its own at zero. -/
theorem extractLsb'_placed_apart {lo width start len : Nat} (v : BitVec width)
    (h : start + len ≤ lo ∨ lo + width ≤ start) : (placed lo v).extractLsb' start len = 0#len := by
  apply BitVec.eq_of_getLsbD_eq
  intro j hj
  by_cases h32 : start + j < 32
  · rw [BitVec.getLsbD_extractLsb', placed_getLsbD _ _ _ h32]
    rcases h with h | h
    · have hlo : ¬ lo ≤ start + j := by omega
      simp [hlo]
    · simp [BitVec.getLsbD_of_ge v (start + j - lo) (by omega)]
  · simp [BitVec.getLsbD_of_ge (placed lo v) (start + j) (by omega)]

/-- A one-bit field leaves every other place at zero. -/
theorem extractLsb'_placedBit_apart {lo start len : Nat} (b : Bool) (h : start + len ≤ lo ∨ lo + 1 ≤ start) :
    (placedBit lo b).extractLsb' start len = 0#len := extractLsb'_placed_apart _ h

theorem extractLsb'_placedBit_same {lo : Nat} (b : Bool) (h : lo + 1 ≤ 32) :
    (placedBit lo b).extractLsb' lo 1 = BitVec.ofBool b := extractLsb'_placed_same _ h

/-- Settles O9: each field of STATUS is read back at its place and the others are zero there. -/
theorem statusRead : Obligations.StatusRead := by
  intro s rest hwf
  refine ⟨fun hm => ⟨statusWord s, step_hostRead hwf hm (by decide), ?_⟩,
    fun value hm => step_hostWrite_ignored hwf hm (by decide) (by decide)⟩
  simp [statusWord, BitVec.extractLsb'_or, extractLsb'_placed_same, extractLsb'_placed_apart,
    extractLsb'_placedBit_apart]

/-- Settles O10: each field of the three words is read back at its place and the others are zero there. -/
theorem resultWindowBitmapReads : Obligations.ResultWindowBitmapReads := by
  intro s rest hwf
  refine ⟨fun hm => ⟨resultWord s, step_hostRead hwf hm (by decide), ?_⟩,
    fun hm => ⟨windowWord s, step_hostRead hwf hm (by decide), ?_⟩, fun hm => step_hostRead hwf hm (by decide), ?_⟩
  · simp [resultWord, BitVec.extractLsb'_or, extractLsb'_placed_same, extractLsb'_placed_apart]
  · simp [windowWord, BitVec.extractLsb'_or, extractLsb'_placed_same, extractLsb'_placed_apart,
      extractLsb'_placedBit_apart]
  · intro offset value ho hm
    have hoff : offset % 4 = 0 ∧ offset ≠ 0 := by
      simp only [List.mem_cons, List.not_mem_nil, or_false] at ho
      omega
    exact step_hostWrite_ignored hwf hm hoff.1 hoff.2

/-- The variant shown in CFG is the port variant. -/
theorem portVariant_toNat (v : Fin 2) : (BitVec.ofBool (decide (v = 1))).toNat = v.val := by
  revert v
  decide

/-- Settles O11: each field of CFG is read back at its place, and well-formedness makes the two numbers fit. -/
theorem cfgRead : Obligations.CfgRead := by
  intro s rest hwf hm
  have hn : (BitVec.ofNat 5 s.cfg.n).toNat = s.cfg.n := by
    rw [BitVec.toNat_ofNat]
    exact Nat.mod_eq_of_lt (Nat.lt_of_le_of_lt (Config.tapCount_of_wf hwf).2 (by decide))
  have hofs : (BitVec.ofNat 2 s.cfg.calibOffset).toNat = s.cfg.calibOffset := by
    rw [BitVec.toNat_ofNat]
    exact Nat.mod_eq_of_lt (Nat.lt_succ_of_le (Config.calibOffset_of_wf hwf))
  refine ⟨cfgWord s.cfg, step_hostRead hwf hm (by decide), ?_⟩
  simp [-BitVec.toNat_ofNat, -BitVec.toNat_ofBool, cfgWord, BitVec.extractLsb'_or, extractLsb'_placed_same,
    extractLsb'_placed_apart, extractLsb'_placedBit_same, extractLsb'_placedBit_apart, hn, hofs, portVariant_toNat]

/-- Settles O12: every field of the reset state has the code zero, and so have the words made of them. -/
theorem resetState : Obligations.ResetState := by
  have hstatus (c : Config) : statusWord (State.resetWith c) = 0 := by
    simp [statusWord, State.resetWith, placedBit, placed, Err.code, DriftEvent.code, Timing.code]
  have hresult (c : Config) : resultWord (State.resetWith c) = 0 := by simp [resultWord, State.resetWith, placed]
  have hwindow (c : Config) : windowWord (State.resetWith c) = 0 := by
    simp [windowWord, State.resetWith, placedBit, placed]
  exact ⟨fun c => ⟨rfl, rfl, rfl, hstatus c, hresult c, hwindow c, rfl⟩, rfl⟩

end Sys2Proof.Machine
end

section
/-! SUPPORT. Accesses of target registers from outside TWS (20_memory.md): the addresses they have (R62), and what the
collaborators of the host do with them between commands (R69, R74). -/

namespace Sys2Proof

/-! ### Addresses -/

/-- The blocks a target register with an address can lie in, and that address (R62). -/
theorem Config.addr_eq_some_iff (c : Config) (r : Target) (a : Nat) :
    c.addr r = some a ↔
      (r ∈ Target.gcbRegisters ∧ c.baseGcb + c.index r * c.regSpacing = a) ∨
        (r ∈ Target.ctbRegisters ∧ c.baseCtb + c.index r * c.regSpacing = a) := by
  rcases r with r | r <;> cases r <;>
    simp [Config.addr, Target.block, Target.gcbRegisters, Target.ctbRegisters]

theorem Config.addr_eq_none_iff (c : Config) (r : Target) : c.addr r = none ↔ r = .plain .platCtrl := by
  rcases r with r | r <;> cases r <;> simp [Config.addr, Target.block]

/-- The whole 32-bit transfer of a register lies below the end of its block. -/
theorem Config.registerEnd_le_blockEnd (c : Config) (base : Nat) {regs : List Target} {r : Target} (h : r ∈ regs) :
    base + c.index r * c.regSpacing + 4 ≤ c.blockEnd base regs := by
  have hmax : c.blockEnd base regs = (regs.map fun q => base + c.index q * c.regSpacing + 4).foldl max base :=
    List.foldl_map.symm
  rw [hmax, List.foldl_eq_foldr]
  exact List.le_max_of_le' base (List.mem_map_of_mem h) (Nat.le_refl _)

/-- Two registers of a block whose registers have distinct indices share no address. -/
theorem Config.eq_of_sameAddress (c : Config) {base : Nat} {regs : List Target} {r q : Target}
    (hspacing : 0 < c.regSpacing) (hindices : (regs.map c.index).Nodup) (hr : r ∈ regs) (hq : q ∈ regs)
    (h : base + c.index r * c.regSpacing = base + c.index q * c.regSpacing) : r = q :=
  List.inj_on_of_nodup_map hindices hr hq (Nat.eq_of_mul_eq_mul_right hspacing (Nat.add_left_cancel h))

/-- Two blocks of which one ends before the other begins share no address. -/
theorem Config.address_ne_of_blockEnd_le (c : Config) {base base' : Nat} {regs : List Target} {r q : Target}
    (h : c.blockEnd base regs ≤ base') (hr : r ∈ regs) :
    base + c.index r * c.regSpacing ≠ base' + c.index q * c.regSpacing := by
  have := c.registerEnd_le_blockEnd base hr
  omega

/-- What a well-formed configuration says of addresses (00_scope.md R13; log 6). -/
theorem Config.wf_addressing {c : Config} (h : c.wf = true) :
    0 < c.regSpacing ∧ (Target.gcbRegisters.map c.index).Nodup ∧ (Target.ctbRegisters.map c.index).Nodup ∧
      (c.blockEnd c.baseGcb Target.gcbRegisters ≤ c.baseCtb ∨
        c.blockEnd c.baseCtb Target.ctbRegisters ≤ c.baseGcb) := by
  simp only [Config.wf, Config.spacingOk, Config.rangesOk, Config.indicesOk, Bool.and_eq_true, Bool.or_eq_true,
    decide_eq_true_eq] at h
  obtain ⟨⟨⟨⟨⟨-, hspacing⟩, -⟩, -⟩, hranges⟩, hgcb, hctb⟩ := h
  exact ⟨by omega, hgcb, hctb, hranges⟩

end Sys2Proof

namespace Sys2Proof.Machine

open Sys2Proof

/-- Settles O16: within a block the indices differ, and the two blocks' ranges do not overlap. -/
theorem addressesDistinct : Obligations.AddressesDistinct := by
  refine fun c hwf => ⟨fun r q a hr hq => ?_, c.addr_eq_none_iff⟩
  obtain ⟨hspacing, hgcb, hctb, hranges⟩ := Config.wf_addressing hwf
  have hapart {x y : Target} (hx : x ∈ Target.gcbRegisters) (hy : y ∈ Target.ctbRegisters) :
      c.baseGcb + c.index x * c.regSpacing ≠ c.baseCtb + c.index y * c.regSpacing :=
    hranges.elim (fun h => c.address_ne_of_blockEnd_le h hx) fun h => (c.address_ne_of_blockEnd_le h hy).symm
  rw [Config.addr_eq_some_iff] at hr hq
  rcases hr with ⟨hr, hra⟩ | ⟨hr, hra⟩ <;> rcases hq with ⟨hq, hqa⟩ | ⟨hq, hqa⟩
  · exact c.eq_of_sameAddress hspacing hgcb hr hq (hra.trans hqa.symm)
  · exact absurd (hra.trans hqa.symm) (hapart hr hq)
  · exact absurd (hqa.trans hra.symm) (hapart hq hr)
  · exact c.eq_of_sameAddress hspacing hctb hr hq (hra.trans hqa.symm)

/-! ### Collaborators -/

/-- Settles O15: the step takes the access, and a read of a volatile register takes the next draw of that register
alone. -/
theorem collaboratorAccess : Obligations.CollaboratorAccess := by
  intro s rest hwf
  refine ⟨fun r v hm => ?_, fun r v hm => step_performs hwf hm, fun r hm => step_performs hwf hm, fun r hm => ?_⟩
  · exact ⟨s.store.put r v, step_performs hwf hm, s.store.get_put_same r v, fun q hq => s.store.get_put_other v hq⟩
  · exact ⟨State.consume { s with inbox := rest } r, step_performs hwf hm, rfl, State.upcoming_consume_same _ r,
      fun q hq => State.upcoming_consume_other _ hq⟩

end Sys2Proof.Machine
end

section
/-! SUPPORT. The target registers each command reaches (20_memory.md R77): every line of every procedure `Reaches` only
registers the table of R77 gives the command. -/

namespace Sys2Proof.Machine

open Sys2Proof

/-- From `s` to `t` only registers that R77 gives command `i` are reached: the events in between are accesses of them,
and the other plain registers and draws are as they were. -/
structure Reaches (i : Instr) (s t : State) : Prop where
  events : ∃ events, t.trace = s.trace ++ events ∧ ∀ e ∈ events, e.allowedFor i = true
  plains : ∀ r : PlainReg, .plain r ∉ mayWrite i → t.store.get r = s.store.get r
  draws : ∀ r : VolatileReg, .volatile r ∉ mayRead i → t.sources.get r = s.sources.get r

section
variable {i : Instr}

/-- A change of the machine's own state reaches no target register. -/
theorem reaches_of_eq {s t : State} (h : (t.store, t.sources, t.trace) = (s.store, s.sources, s.trace)) :
    Reaches i s t := by
  obtain ⟨hstore, hsources, htrace⟩ : t.store = s.store ∧ t.sources = s.sources ∧ t.trace = s.trace := by
    simpa using h
  exact ⟨⟨[], by simp [htrace]⟩, fun _ _ => by rw [hstore], fun _ _ => by rw [hsources]⟩

theorem Reaches.refl (s : State) : Reaches i s s := reaches_of_eq rfl

theorem Reaches.trans {s t u : State} (hst : Reaches i s t) (htu : Reaches i t u) : Reaches i s u := by
  obtain ⟨es, hes, hallowed⟩ := hst.events
  obtain ⟨fs, hfs, hallowed'⟩ := htu.events
  refine ⟨⟨es ++ fs, by rw [hfs, hes, List.append_assoc], ?_⟩, fun r hr => (htu.plains r hr).trans (hst.plains r hr),
    fun r hr => (htu.draws r hr).trans (hst.draws r hr)⟩
  exact List.forall_mem_append.mpr ⟨hallowed, hallowed'⟩

/-! ### The access primitives -/

theorem read_allowedFor {r : Target} {v : Word} : (BusEvent.read r v).allowedFor i = true ↔ r ∈ mayRead i :=
  decide_eq_true_iff

theorem write_allowedFor {r : Target} {v : Word} : (BusEvent.write r v).allowedFor i = true ↔ r ∈ mayWrite i :=
  decide_eq_true_iff

theorem plat_allowedFor {v : Word} : (BusEvent.plat v).allowedFor i = true ↔ .plain .platCtrl ∈ mayWrite i :=
  decide_eq_true_iff

theorem logEvent_reaches {e : BusEvent} (he : e.allowedFor i = true) (s : State) : Reaches i s (s.logEvent e) :=
  ⟨⟨[e], rfl, by simpa using he⟩, fun _ _ => rfl, fun _ _ => rfl⟩

theorem tapSet_reaches (t : Octet) (s : State) : Reaches i s { s with tapSet := t } := reaches_of_eq rfl

theorem putPlain_reaches {r : PlainReg} (hr : .plain r ∈ mayWrite i) (v : Word) (s : State) :
    Reaches i s (s.putPlain r v) :=
  ⟨⟨[], by simp⟩, fun _ hq => s.store.get_put_other v fun h => hq (h ▸ hr), fun _ _ => rfl⟩

theorem consume_reaches {r : VolatileReg} (hr : .volatile r ∈ mayRead i) (s : State) : Reaches i s (s.consume r) :=
  ⟨⟨[], by simp⟩, fun _ _ => rfl, fun _ hq => s.sources.get_put_other _ fun h => hq (h ▸ hr)⟩

theorem readPlain_reaches {r : PlainReg} (s : State) (hr : .plain r ∈ mayRead i := by decide) :
    Reaches i s (readPlain r s).2 := logEvent_reaches (read_allowedFor.mpr hr) s

theorem readVolatile_reaches {r : VolatileReg} (s : State) (hr : .volatile r ∈ mayRead i := by decide) :
    Reaches i s (readVolatile r s).2 :=
  (consume_reaches hr s).trans (logEvent_reaches (read_allowedFor.mpr hr) _)

theorem writePlain_reaches {r : PlainReg} (v : Word) (s : State) (hr : .plain r ∈ mayWrite i := by decide) :
    Reaches i s (writePlain r v s) :=
  (putPlain_reaches hr v s).trans (logEvent_reaches (write_allowedFor.mpr hr) _)

theorem writeVolatile_reaches {r : VolatileReg} (v : Word) (s : State) (hr : .volatile r ∈ mayWrite i := by decide) :
    Reaches i s (writeVolatile r v s) := logEvent_reaches (write_allowedFor.mpr hr) s

theorem platWrite_reaches (v : Word) (s : State) (hr : .plain .platCtrl ∈ mayWrite i := by decide) :
    Reaches i s (platWrite v s) :=
  (putPlain_reaches hr v s).trans (logEvent_reaches (plat_allowedFor.mpr hr) _)

/-! ### Protected writes and procedures -/

theorem afterPolls_reaches (hpoll : .volatile .gcbStatus ∈ mayRead i) (s : State) (count : Nat) :
    Reaches i s (s.afterPolls count) := by
  refine ⟨⟨s.pollEvents count, rfl, ?_⟩, fun _ _ => rfl, fun _ hq => s.sources.get_put_other _ fun h => hq (h ▸ hpoll)⟩
  simp [State.pollEvents, read_allowedFor, hpoll]

theorem writeProtected_reaches {r : PlainReg} (v : Word) (k : Nat) (s : State)
    (hpoll : .volatile .gcbStatus ∈ mayRead i := by decide) (hr : .plain r ∈ mayWrite i := by decide) :
    Reaches i s (writeProtected r v k s).state :=
  writeProtected_respects (fun s m => (writePlain_reaches v s hr).trans (afterPolls_reaches hpoll _ m)) s

theorem rmwProtected_reaches {r : PlainReg} (clr set : Word) (k : Nat) (s : State)
    (hpoll : .volatile .gcbStatus ∈ mayRead i := by decide) (hread : .plain r ∈ mayRead i := by decide)
    (hwrite : .plain r ∈ mayWrite i := by decide) : Reaches i s (rmwProtected r clr set k s).state :=
  (readPlain_reaches s hread).trans (writeProtected_reaches _ k _ hpoll hwrite)

theorem andThen_reaches {α β : Type} {p : Proc α} {f : α → State → Proc β} {s : State} (hp : Reaches i s p.state)
    (hf : ∀ a t, Reaches i t (f a t).state) : Reaches i s (p.andThen f).state := by
  cases p with
  | done a t => exact hp.trans (hf a t)
  | raised x t => exact hp

theorem lines_reaches {l : List Action} (h : ∀ a ∈ l, Respects (Reaches i) a) : Respects (Reaches i) (runActions l) :=
  runActions_respects Reaches.refl (fun _ _ _ => Reaches.trans) h

theorem onlyIf_reaches {test : State → Bool} {a : Action} (h : Respects (Reaches i) a) :
    Respects (Reaches i) (onlyIf test a) := onlyIf_respects Reaches.refl h

/-! ### The calibrator -/

section
variable (hpoll : .volatile .gcbStatus ∈ mayRead i) (hcal : ∀ r ∈ mcalWrites, r ∈ mayWrite i)
include hpoll hcal

theorem calibrationWrite_reaches {r : PlainReg} (v : Word) (k : Nat) (s : State)
    (hr : .plain r ∈ mcalWrites := by decide) : Reaches i s (writeProtected r v k s).state :=
  writeProtected_reaches v k s hpoll (hcal _ hr)

theorem mcalDisable_reaches (k0 : Nat) : Respects (Reaches i) (mcalDisable k0) :=
  lines_reaches <| by
    simp only [List.forall_mem_cons]
    exact ⟨fun s => calibrationWrite_reaches hpoll hcal s.cfg.wpUnlockCode k0 s,
      calibrationWrite_reaches hpoll hcal _ _, calibrationWrite_reaches hpoll hcal _ _,
      fun _ => reaches_of_eq rfl, nofun⟩

theorem mcalEnable_reaches (hcode : .volatile .ctbCalcode ∈ mayRead i) (k0 : Nat) (s : State) :
    Reaches i s (mcalEnable k0 s).state := by
  unfold mcalEnable
  split
  · exact Reaches.refl s
  · refine andThen_reaches (calibrationWrite_reaches hpoll hcal _ k0 s) fun _ s1 => ?_
    refine (readVolatile_reaches s1 hcode).trans ?_
    refine andThen_reaches (calibrationWrite_reaches hpoll hcal _ (k0 + 1) _) fun _ s2 => ?_
    exact andThen_reaches (calibrationWrite_reaches hpoll hcal _ (k0 + 2) s2) fun _ s3 => reaches_of_eq rfl

end

end

theorem mcalenProc_reaches : Respects (Reaches .mcalen) mcalenProc := fun s =>
  andThen_reaches (mcalEnable_reaches (by decide) (by decide) (by decide) 1 s) fun _ _ => reaches_of_eq rfl

/-! ### The HS400 sequences -/

theorem enterCalibration_reaches : Respects (Reaches .hs4ent) enterCalibration := fun s =>
  andThen_reaches (mcalEnable_reaches (by decide) (by decide) (by decide) 9 s) fun _ => Reaches.refl

theorem hs4entLines_reaches : Respects (Reaches .hs4ent) (runActions hs4entLines) :=
  lines_reaches <| by
    simp only [hs4entLines, List.forall_mem_cons]
    exact ⟨fun s => platWrite_reaches s.cfg.platHs400On s, rmwProtected_reaches _ _ _, rmwProtected_reaches _ _ _,
      fun s => writeProtected_reaches s.cfg.tapposHs400 _ s, onlyIf_reaches (rmwProtected_reaches _ _ _),
      rmwProtected_reaches _ _ _, onlyIf_reaches fun s => rmwProtected_reaches _ (tapWord (s.cfg.n / 2)) _ s,
      onlyIf_reaches fun s => writeProtected_reaches (tapWord (s.tapSet.toNat / 2)) _ s, rmwProtected_reaches _ _ _,
      fun _ => reaches_of_eq rfl, onlyIf_reaches enterCalibration_reaches, nofun⟩

theorem hs4entProc_reaches : Respects (Reaches .hs4ent) hs4entProc := by
  intro s
  unfold hs4entProc
  split
  · exact Reaches.refl s
  · exact hs4entLines_reaches s

theorem hs4extLines_reaches : Respects (Reaches .hs4ext) (runActions hs4extLines) :=
  lines_reaches <| by
    simp only [hs4extLines, List.forall_mem_cons]
    exact ⟨onlyIf_reaches (mcalDisable_reaches (by decide) (by decide) 1), rmwProtected_reaches _ _ _,
      onlyIf_reaches fun s => rmwProtected_reaches _ (tapWord s.cfg.n) _ s,
      onlyIf_reaches fun s => writeProtected_reaches (tapWord s.tapSet.toNat) _ s, rmwProtected_reaches _ _ _,
      onlyIf_reaches (rmwProtected_reaches _ _ _), fun s => writeProtected_reaches s.cfg.tapposDefault _ s,
      rmwProtected_reaches _ _ _, rmwProtected_reaches _ _ _, fun s => platWrite_reaches s.cfg.platHs400Off s, nofun⟩

theorem hwrstLines_reaches : Respects (Reaches .hwrst) (runActions hwrstLines) :=
  lines_reaches <| by
    simp only [hwrstLines, List.forall_mem_cons]
    exact ⟨onlyIf_reaches (mcalDisable_reaches (by decide) (by decide) 1), rmwProtected_reaches _ _ _,
      onlyIf_reaches fun s => rmwProtected_reaches _ (tapWord s.cfg.n) _ s, writeProtected_reaches _ _,
      rmwProtected_reaches _ _ _, rmwProtected_reaches _ _ _,
      fun s => writeProtected_reaches s.cfg.tapposDefault _ s, rmwProtected_reaches _ _ _, rmwProtected_reaches _ _ _,
      fun _ => reaches_of_eq rfl, nofun⟩

/-! ### TUNE and DRIFT -/

theorem programTap_reaches (t : Nat) (s : State) : Reaches .tune s (programTap t s) :=
  Reaches.trans (tapSet_reaches _ s) <| Reaches.trans (writePlain_reaches _ _) <|
    Reaches.trans (readPlain_reaches _) (writePlain_reaches _ _)

theorem tuneProc_reaches : Respects (Reaches .tune) tuneProc := by
  intro s
  dsimp only [tuneProc, selectWindow]
  split
  · split
    · exact reaches_of_eq rfl
    · refine Reaches.trans (t := mergeBitmap s) (reaches_of_eq rfl) ?_
      exact (programTap_reaches _ _).trans (reaches_of_eq rfl)
  · exact Reaches.refl s

theorem autoBranch_reaches (s : State) : Reaches .drift s (autoBranch s).2 := by
  dsimp only [autoBranch]
  split
  · exact (readVolatile_reaches s).trans (writeVolatile_reaches _ _)
  · exact readVolatile_reaches s

theorem manualBranch_reaches (s : State) : Reaches .drift s (manualBranch s).2 := by
  dsimp only [manualBranch]
  split
  · exact (readVolatile_reaches s).trans (readVolatile_reaches _)
  · exact readVolatile_reaches s

theorem moveTap_reaches (t : Nat) (s : State) : Reaches .drift s (moveTap t s) :=
  Reaches.trans (tapSet_reaches _ s) (writePlain_reaches _ _)

theorem adjust_reaches (ev : DriftEvent) (s : State) : Reaches .drift s (adjust ev s) := by
  cases ev with
  | noError | retuneRequired => exact Reaches.refl s
  | tapUp | tapDown => exact moveTap_reaches _ s

theorem driftCheck_reaches (s : State) : Reaches .drift s (driftCheck s).2 := by
  dsimp only [driftCheck]
  split
  · refine (readPlain_reaches (r := .ctbRvscntl) s).trans ?_
    split
    · exact autoBranch_reaches _
    · exact (manualBranch_reaches _).trans (adjust_reaches _ _)
  · exact Reaches.refl s

/-! ### Every command -/

theorem procedureOf_reaches (i : Instr) : Respects (Reaches i) (procedureOf i) := by
  intro s
  cases i with
  | nop | tbegin | ldbl | ldbh => exact reaches_of_eq rfl
  | probe | settm | clkup =>
    dsimp only [procedureOf, recordProbe, setTiming, lookUp]
    split <;> exact reaches_of_eq rfl
  | tune => exact tuneProc_reaches s
  | drift => exact (driftCheck_reaches s).trans (reaches_of_eq rfl)
  | hs4ent => exact hs4entProc_reaches s
  | hs4ext => exact hs4extLines_reaches s
  | hwrst => exact hwrstLines_reaches s
  | mcalen => exact mcalenProc_reaches s
  | mcaldis => exact mcalDisable_reaches (by decide) (by decide) 1 s

/-- Settles O53: the procedure of each command reaches only what R77 gives it, and neither the beginning of a
command nor a failure outcome reaches a target register. -/
theorem registersReached : Obligations.RegistersReached := by
  intro s t i h
  obtain ⟨events, plains, draws⟩ : Reaches i s t :=
    exec_respects (R := Reaches i) (fun _ _ _ => Reaches.trans) (fun _ => reaches_of_eq rfl)
      (fun x _ => reaches_of_eq (by cases x <;> rfl)) (procedureOf_reaches i) h
  exact ⟨events, plains, draws⟩

end Sys2Proof.Machine
end

section
/-! SUPPORT. Command words (30_encoding.md). A format is a mask with the operands below it, so a word that shows an
opcode under the mask of a format is the encoding of its own fields. From that the decoder and the encoder are inverse
to each other, and the legal words are those the rows of the opcode table cover. -/

namespace Sys2Proof

open Sys2Proof.Laws.TableRow (encodeI8_masked encodeI16_masked encodePB_masked)

/-! ### Words under a mask -/

theorem encodeZ_getLsbD (op : BitVec 8) {j : Nat} (hj : j < 32) :
    (encodeZ op).getLsbD j = (decide (24 ≤ j) && op.getLsbD (j - 24)) := by
  by_cases h : 24 ≤ j <;> simp [encodeZ, hj, h]

section
variable {lo : Nat} {mask w : Word}

theorem and_mask_getLsbD (hmask : mask = BitVec.allOnes 32 <<< lo) (w : Word) {j : Nat} (hj : j < 32) :
    (w &&& mask).getLsbD j = (w.getLsbD j && decide (lo ≤ j)) := by
  simp [-BitVec.reduceAllOnes, hmask, hj, ← decide_not]

/-- The bits under a mask and the field below it make up the word. -/
theorem masked_or_lowField (w : Word) (hmask : mask = BitVec.allOnes 32 <<< lo := by decide) :
    w &&& mask ||| (w.extractLsb' 0 lo).setWidth 32 = w := by
  apply BitVec.eq_of_getLsbD_eq
  intro j hj
  rw [BitVec.getLsbD_or, and_mask_getLsbD hmask w hj]
  by_cases h : lo ≤ j <;> simp [h, hj]
  omega

/-- An opcode shown under a mask is the opcode of the word. -/
theorem opcode_of_masked {op : BitVec 8} (h : w &&& mask = encodeZ op)
    (hmask : mask = BitVec.allOnes 32 <<< lo) (hlo : lo ≤ 24) : opcode w = op := by
  apply BitVec.eq_of_getLsbD_eq
  intro j hj
  have hle : lo ≤ 24 + j := by omega
  have hbit : (w &&& mask).getLsbD (24 + j) = op.getLsbD j := by
    rw [h, encodeZ_getLsbD op (by omega)]
    simp
  rw [and_mask_getLsbD hmask w (by omega)] at hbit
  simpa [opcode, hj, hle] using hbit

/-- Under the mask of its format a word shows its opcode alone exactly when the reserved bits are zero (R98). -/
theorem masked_eq_opcode_iff (hmask : mask = BitVec.allOnes 32 <<< lo) (hlo : lo ≤ 24) :
    w &&& mask = encodeZ (opcode w) ↔ w.extractLsb' lo (24 - lo) = 0 := by
  constructor <;> intro h <;> apply BitVec.eq_of_getLsbD_eq <;> intro j hj
  · have hbit : (w &&& mask).getLsbD (lo + j) = w.getLsbD (lo + j) := by
      rw [and_mask_getLsbD hmask w (by omega)]
      simp
    have hlt : ¬ 24 ≤ lo + j := by omega
    rw [h, encodeZ_getLsbD _ (by omega)] at hbit
    simpa [hj, hlt] using hbit.symm
  · rw [and_mask_getLsbD hmask w hj, encodeZ_getLsbD _ hj]
    by_cases h24 : 24 ≤ j
    · have hle : lo ≤ j := by omega
      have hlt : j - 24 < 8 := by omega
      simp [opcode, h24, hle, hlt]
    · by_cases hle : lo ≤ j
      · have hlt : j - lo < 24 - lo := by omega
        simpa [h24, hle, hlt] using congrArg (·.getLsbD (j - lo)) h
      · simp [h24, hle]

theorem withReservedFrom_eq_ok_iff {i j : Instr} (hmask : mask = BitVec.allOnes 32 <<< lo) (hlo : lo ≤ 24) :
    withReservedFrom lo w i = .ok j ↔ w &&& mask = encodeZ (opcode w) ∧ i = j := by
  rw [masked_eq_opcode_iff hmask hlo]
  unfold withReservedFrom
  split <;> simp_all

/-- The field below the opcode is read back. -/
theorem extractLsb'_encodeZ_or (op : BitVec 8) (v : BitVec lo) (hlo : lo ≤ 24 := by decide) :
    (encodeZ op ||| v.setWidth 32).extractLsb' 0 lo = v := by
  apply BitVec.eq_of_getLsbD_eq
  intro j hj
  have hlt : j < 32 := by omega
  have hlow : ¬ 24 ≤ j := by omega
  rw [BitVec.getLsbD_extractLsb', BitVec.getLsbD_or, encodeZ_getLsbD op (by omega)]
  simp [hj, hlt, hlow]

end

/-! ### The four formats -/

section
variable {w : Word} {op : BitVec 8}

theorem masked_all (w : Word) : w &&& 0xFFFFFFFF#32 = w := BitVec.and_allOnes

theorem encodeI8_lowByte (h : w &&& 0xFFFFFF00#32 = encodeZ op) : encodeI8 op (lowByte w) = w := by
  rw [encodeI8, ← h]
  exact masked_or_lowField w

theorem encodeI16_lowHalf (h : w &&& 0xFFFF0000#32 = encodeZ op) : encodeI16 op (lowHalf w) = w := by
  rw [encodeI16, ← h]
  exact masked_or_lowField w

/-- The operands of format PB are the field below its mask (R95). -/
theorem passBit_or_lowByte (w : Word) :
    (BitVec.ofBool (passBit w)).setWidth 32 <<< 8 ||| (lowByte w).setWidth 32 = (w.extractLsb' 0 9).setWidth 32 := by
  apply BitVec.eq_of_getLsbD_eq
  intro j hj
  interval_cases j <;> simp [lowByte, passBit]

theorem encodePB_passBit_lowByte (h : w &&& 0xFFFFFE00#32 = encodeZ op) :
    encodePB op (passBit w) (lowByte w) = w := by
  rw [encodePB, BitVec.or_assoc, passBit_or_lowByte, ← h]
  exact masked_or_lowField w

end

section
variable (op imm8 idx : BitVec 8) (imm16 : BitVec 16) (p : Bool)

@[simp] theorem opcode_encodeZ : opcode (encodeZ op) = op :=
  opcode_of_masked (masked_all _) (lo := 0) (by decide) (by decide)

@[simp] theorem opcode_encodeI8 : opcode (encodeI8 op imm8) = op :=
  opcode_of_masked (encodeI8_masked op imm8) (lo := 8) (by decide) (by decide)

@[simp] theorem opcode_encodeI16 : opcode (encodeI16 op imm16) = op :=
  opcode_of_masked (encodeI16_masked op imm16) (lo := 16) (by decide) (by decide)

@[simp] theorem opcode_encodePB : opcode (encodePB op p idx) = op :=
  opcode_of_masked (encodePB_masked op p idx) (lo := 9) (by decide) (by decide)

@[simp] theorem lowByte_encodeI8 : lowByte (encodeI8 op imm8) = imm8 := extractLsb'_encodeZ_or op imm8

@[simp] theorem lowHalf_encodeI16 : lowHalf (encodeI16 op imm16) = imm16 := extractLsb'_encodeZ_or op imm16

@[simp] theorem lowByte_encodePB : lowByte (encodePB op p idx) = idx := by
  apply BitVec.eq_of_getLsbD_eq
  intro j hj
  interval_cases j <;> simp [lowByte, encodePB, encodeZ]

@[simp] theorem passBit_encodePB : passBit (encodePB op p idx) = p := by
  simp [passBit, encodePB, encodeZ]

end

/-! ### Decoding in one format -/

section
variable {w : Word} {j : Instr}

theorem decodeZ_eq_ok_iff {i : Instr} : decodeZ w i = .ok j ↔ w = encodeZ (opcode w) ∧ i = j := by
  rw [decodeZ, withReservedFrom_eq_ok_iff (mask := 0xFFFFFFFF#32) (by decide) (by decide), masked_all]

theorem decodeI8_eq_ok_iff {f : BitVec 8 → Instr} :
    decodeI8 w f = .ok j ↔ w &&& 0xFFFFFF00#32 = encodeZ (opcode w) ∧ f (lowByte w) = j :=
  withReservedFrom_eq_ok_iff (by decide) (by decide)

theorem decodeI16_eq_ok_iff {f : BitVec 16 → Instr} :
    decodeI16 w f = .ok j ↔ w &&& 0xFFFF0000#32 = encodeZ (opcode w) ∧ f (lowHalf w) = j :=
  withReservedFrom_eq_ok_iff (by decide) (by decide)

theorem decodePB_eq_ok_iff {f : Bool → BitVec 8 → Instr} :
    decodePB w f = .ok j ↔ w &&& 0xFFFFFE00#32 = encodeZ (opcode w) ∧ f (passBit w) (lowByte w) = j :=
  withReservedFrom_eq_ok_iff (by decide) (by decide)

end

theorem decodeZ_encodeZ (op : BitVec 8) (i : Instr) : decodeZ (encodeZ op) i = .ok i := by
  simp [decodeZ_eq_ok_iff]

theorem decodeI8_encodeI8 (op imm8 : BitVec 8) (f : BitVec 8 → Instr) :
    decodeI8 (encodeI8 op imm8) f = .ok (f imm8) := by
  simp [decodeI8_eq_ok_iff, encodeI8_masked]

theorem decodeI16_encodeI16 (op : BitVec 8) (imm16 : BitVec 16) (f : BitVec 16 → Instr) :
    decodeI16 (encodeI16 op imm16) f = .ok (f imm16) := by
  simp [decodeI16_eq_ok_iff, encodeI16_masked]

theorem decodePB_encodePB (op : BitVec 8) (p : Bool) (idx : BitVec 8) (f : Bool → BitVec 8 → Instr) :
    decodePB (encodePB op p idx) f = .ok (f p idx) := by
  simp [decodePB_eq_ok_iff, encodePB_masked]

/-! ### Decoder and encoder -/

theorem decode_encode (i : Instr) : decode (encode i) = .ok i := by
  cases i with
  | nop | tbegin | tune | drift | hs4ent | hs4ext | hwrst | mcalen | mcaldis => simp [decode, encode, decodeZ_encodeZ]
  | settm | clkup => simp [decode, encode, decodeI8_encodeI8]
  | ldbl | ldbh => simp [decode, encode, decodeI16_encodeI16]
  | probe => simp [decode, encode, decodePB_encodePB]

/-- Settles O1: each format gives back its opcode and its operands. -/
theorem decodeOfEncode : Obligations.DecodeOfEncode := decode_encode

/-- An answer of the decoder that is legal only as a command whose encoding is the word (R98). -/
def Faithful (w : Word) (answer : Except IllegalWord Instr) : Prop := ∀ i, answer = .ok i → encode i = w

section
variable {w : Word} {op : BitVec 8}

theorem Faithful.ite {a b : Except IllegalWord Instr} (ha : opcode w = op → Faithful w a) (hb : Faithful w b) :
    Faithful w (if opcode w = op then a else b) := by
  split
  · exact ha ‹_›
  · exact hb

theorem decodeZ_faithful {i : Instr} (hi : encode i = encodeZ op) (hop : opcode w = op) :
    Faithful w (decodeZ w i) := by
  intro j h
  obtain ⟨hw, rfl⟩ := decodeZ_eq_ok_iff.mp h
  rw [hi, ← hop, ← hw]

theorem decodeI8_faithful {f : BitVec 8 → Instr} (hf : ∀ imm8, encode (f imm8) = encodeI8 op imm8)
    (hop : opcode w = op) : Faithful w (decodeI8 w f) := by
  intro j h
  obtain ⟨hw, rfl⟩ := decodeI8_eq_ok_iff.mp h
  rw [hf, ← hop, encodeI8_lowByte hw]

theorem decodeI16_faithful {f : BitVec 16 → Instr} (hf : ∀ imm16, encode (f imm16) = encodeI16 op imm16)
    (hop : opcode w = op) : Faithful w (decodeI16 w f) := by
  intro j h
  obtain ⟨hw, rfl⟩ := decodeI16_eq_ok_iff.mp h
  rw [hf, ← hop, encodeI16_lowHalf hw]

theorem decodePB_faithful {f : Bool → BitVec 8 → Instr} (hf : ∀ p idx, encode (f p idx) = encodePB op p idx)
    (hop : opcode w = op) : Faithful w (decodePB w f) := by
  intro j h
  obtain ⟨hw, rfl⟩ := decodePB_eq_ok_iff.mp h
  rw [hf, ← hop, encodePB_passBit_lowByte hw]

theorem decode_faithful (w : Word) : Faithful w (decode w) :=
  .ite (decodeZ_faithful rfl) <|                 -- NOP
  .ite (decodeZ_faithful rfl) <|                 -- TBEGIN
  .ite (decodePB_faithful fun _ _ => rfl) <|     -- PROBE
  .ite (decodeI16_faithful fun _ => rfl) <|      -- LDBL
  .ite (decodeI16_faithful fun _ => rfl) <|      -- LDBH
  .ite (decodeZ_faithful rfl) <|                 -- TUNE
  .ite (decodeI8_faithful fun _ => rfl) <|       -- SETTM
  .ite (decodeZ_faithful rfl) <|                 -- DRIFT
  .ite (decodeZ_faithful rfl) <|                 -- HS4ENT
  .ite (decodeZ_faithful rfl) <|                 -- HS4EXT
  .ite (decodeZ_faithful rfl) <|                 -- HWRST
  .ite (decodeI8_faithful fun _ => rfl) <|       -- CLKUP
  .ite (decodeZ_faithful rfl) <|                 -- MCALEN
  .ite (decodeZ_faithful rfl) nofun              -- MCALDIS, and the unused opcodes

end

/-- Settles O2: the opcode selects the format, and in it the word is the encoding of its own fields. -/
theorem encodeOfDecode : Obligations.EncodeOfDecode := decode_faithful

/-! ### The opcode table -/

open Sys2Proof.Laws in
/-- The word of every command is covered by the row of its mnemonic (R97). -/
theorem row_covers_encode (i : Instr) : TableRow.Statement i := by
  cases i with
  | nop => exact TableRow.nop
  | tbegin => exact TableRow.tbegin
  | probe p idx => exact TableRow.probe p idx
  | ldbl imm16 => exact TableRow.ldbl imm16
  | ldbh imm16 => exact TableRow.ldbh imm16
  | tune => exact TableRow.tune
  | settm imm8 => exact TableRow.settm imm8
  | drift => exact TableRow.drift
  | hs4ent => exact TableRow.hs4ent
  | hs4ext => exact TableRow.hs4ext
  | hwrst => exact TableRow.hwrst
  | clkup imm8 => exact TableRow.clkup imm8
  | mcalen => exact TableRow.mcalen
  | mcaldis => exact TableRow.mcaldis

theorem OpcodeRow.covers_iff {row : OpcodeRow} {w : Word} : row.covers w = true ↔ w &&& row.mask = row.pattern :=
  decide_eq_true_iff

/-- A word that a row of the table covers is the encoding of a command with the row's mnemonic (R98). -/
theorem exists_encode_of_covers {w : Word} {row : OpcodeRow} (hrow : row ∈ opcodeRows) (h : row.covers w = true) :
    ∃ i, i.mnemonic = row.mnemonic ∧ encode i = w := by
  have hZ {i : Instr} (hw : w &&& 0xFFFFFFFF#32 = encode i) : encode i = w := hw.symm.trans (masked_all w)
  revert row
  simp only [opcodeRows, List.forall_mem_cons, OpcodeRow.covers_iff]
  exact ⟨fun h => ⟨.nop, rfl, hZ h⟩, fun h => ⟨.tbegin, rfl, hZ h⟩,
    fun h => ⟨.probe _ _, rfl, encodePB_passBit_lowByte h⟩, fun h => ⟨.ldbl _, rfl, encodeI16_lowHalf h⟩,
    fun h => ⟨.ldbh _, rfl, encodeI16_lowHalf h⟩, fun h => ⟨.tune, rfl, hZ h⟩,
    fun h => ⟨.settm _, rfl, encodeI8_lowByte h⟩, fun h => ⟨.drift, rfl, hZ h⟩, fun h => ⟨.hs4ent, rfl, hZ h⟩,
    fun h => ⟨.hs4ext, rfl, hZ h⟩, fun h => ⟨.hwrst, rfl, hZ h⟩, fun h => ⟨.clkup _, rfl, encodeI8_lowByte h⟩,
    fun h => ⟨.mcalen, rfl, hZ h⟩, fun h => ⟨.mcaldis, rfl, hZ h⟩, nofun⟩

theorem eq_of_mnemonic_eq {row row' : OpcodeRow} (h : row ∈ opcodeRows) (h' : row' ∈ opcodeRows)
    (heq : row.mnemonic = row'.mnemonic) : row = row' :=
  List.inj_on_of_nodup_map (f := OpcodeRow.mnemonic) (by decide) h h' heq

/-- The row that covers a legal word has the mnemonic of its command. -/
theorem mnemonic_of_covers {w : Word} {i : Instr} {row : OpcodeRow} (hd : decode w = .ok i) (hrow : row ∈ opcodeRows)
    (h : row.covers w = true) : row.mnemonic = i.mnemonic := by
  obtain ⟨j, hj, rfl⟩ := exists_encode_of_covers hrow h
  obtain rfl : j = i := Except.ok.inj ((decode_encode j).symm.trans hd)
  exact hj.symm

/-- Settles O3: a covered word is an encoding, so it is legal and its row has the mnemonic of its one command. -/
theorem legalWordsAreTableRows : Obligations.LegalWordsAreTableRows := by
  have legal {w : Word} {row : OpcodeRow} (hrow : row ∈ opcodeRows) (h : row.covers w = true) :
      ∃ i, decode w = .ok i := by
    obtain ⟨i, -, rfl⟩ := exists_encode_of_covers hrow h
    exact ⟨i, decode_encode i⟩
  refine ⟨fun w => ⟨?_, fun ⟨row, hrow, h⟩ => legal hrow h⟩, fun w i hd row hrow h => mnemonic_of_covers hd hrow h, ?_⟩
  · rintro ⟨i, hd⟩
    obtain ⟨row, hrow, -, h⟩ := row_covers_encode i
    exact ⟨row, hrow, decode_faithful w i hd ▸ h⟩
  · intro w row row' hrow hrow' h h'
    obtain ⟨i, hd⟩ := legal hrow h
    exact eq_of_mnemonic_eq hrow hrow' ((mnemonic_of_covers hd hrow h).trans (mnemonic_of_covers hd hrow' h').symm)

/-- Settles O4: the legal words are encodings, and the other three are illegal by evaluation. -/
theorem specWordsDecode : Obligations.SpecWordsDecode :=
  ⟨decode_encode .nop, decode_encode .tbegin, decode_encode (.probe true 11#8), decode_encode (.probe false 11#8),
    decode_encode (.ldbl 0x7FFE#16), decode_encode .tune, decode_encode (.settm 3#8), decode_encode .hwrst,
    decode_encode (.clkup 5#8), decode_encode .mcaldis, by decide, by decide, by decide⟩

end Sys2Proof
end

section
/-! SUPPORT. The pseudo-command LDBM (30_encoding.md R102): what the loop of LDBL and LDBH puts in the bitmap, and so
what the two commands load one after the other. -/

namespace Sys2Proof.Machine

open Sys2Proof

/-- The first iterations of LDBL or LDBH put the bits of the immediate at the indices below `2N`, from `base` up, and
leave every other bit (42_probe_bitmap.md R143, R144). -/
theorem loadBits_getLsbD {n base : Nat} (hn : n ≤ 16) (imm16 : BitVec 16) (count : Nat) (b : Word) (j : Nat) :
    (loadBits n base imm16 count b).getLsbD j =
      if base ≤ j ∧ j < base + count ∧ j < 2 * n then imm16.getLsbD (j - base) else b.getLsbD j := by
  induction count with
  | zero =>
    rw [if_neg (by omega)]
    rfl
  | succ k ih =>
    dsimp only [loadBits]
    split
    · rw [setBit_getLsbD _ _ _ _ (by omega), ih]
      rcases eq_or_ne j (base + k) with rfl | hj
      · rw [if_pos rfl, if_pos (by omega), Nat.add_sub_cancel_left]
      · have hlt : j < base + (k + 1) ↔ j < base + k ∨ j = base + k := by omega
        simp [hj, hlt]
    · have hlt : j < base + (k + 1) ∧ j < 2 * n ↔ j < base + k ∧ j < 2 * n := by omega
      simp only [ih, hlt]

theorem exec_ldbl (imm16 : BitVec 16) {s : State} (h : s.cfg.wf = true) :
    exec (.ldbl imm16) s = .next (loadHalf 0 imm16 s.begin) := exec_wf _ h

theorem exec_ldbh (imm16 : BitVec 16) {s : State} (h : s.cfg.wf = true) :
    exec (.ldbh imm16) s = .next (loadHalf 16 imm16 s.begin) := exec_wf _ h

/-- Settles O22: LDBL writes the indices below 16 and LDBH those from 16 up, both below `2N` only. -/
theorem ldbmLoadsBitmap : Obligations.LdbmLoadsBitmap := by
  intro s imm32 hwf
  refine ⟨_, _, _, _, rfl, exec_ldbl _ hwf, exec_ldbh _ hwf, fun j hj => ?_⟩
  have hn : s.cfg.n ≤ 16 := (Config.tapCount_of_wf hwf).2
  simp only [loadHalf_bitmap, loadHalf_cfg, State.begin_bitmap, State.begin_cfg, loadBits_getLsbD hn]
  by_cases hlow : j < 16
  · rw [if_neg (by omega)]
    simp [hlow]
  · have hhigh : 16 ≤ j := by omega
    have hlt : j - 16 < 16 := by omega
    simp [hlow, hhigh, hj, hlt]

end Sys2Proof.Machine
end

section
/-! SUPPORT. The register sequencer (40_register_sequencer.md): the idle test, the two ways a protected write ends, NOP,
and that a safe state always steps to a safe state. -/

namespace Sys2Proof.Machine

open Sys2Proof

/-! ### The idle test -/

theorem idle_with_busyBit {c : Config} (h : c.capBusyBit = true) (v : Word) : idle c v = !v.getLsbD 14 := if_pos h

theorem idle_without_busyBit {c : Config} (h : c.capBusyBit = false) (v : Word) : idle c v = v.getLsbD 13 := by
  simp [idle, h]

/-- Settles O34: the capability selects the bit that is tested. -/
theorem idleTest : Obligations.IdleTest := by
  intro c v
  constructor
  · intro hc
    rw [idle_with_busyBit hc, Bool.not_eq_true']
  · intro hc
    rw [idle_without_busyBit hc]

/-! ### The protected write -/

/-- A poll none of whose reads is idle raises the label it was given (R110, R113). -/
theorem poll_timesOut (k : Nat) {left : Nat} {s : State} (hb : s.BusyFor left) :
    poll k left s = .raised (.idleTimeout k) (s.afterPolls left) := by
  rcases poll_cases k left s with ⟨m, hm, _, hi, _⟩ | ⟨_, h⟩
  · simp [hb m hm] at hi
  · exact h

/-- A write of a plain register leaves the draws alone, so the polls after it read what they would have read before. -/
theorem writePlain_afterPolls (r : PlainReg) (v : Word) (s : State) (count : Nat) :
    (writePlain r v s).afterPolls count = { s with
      store := s.store.put r v
      sources := { s.sources with gcbStatus := s.sources.gcbStatus.advanceBy count }
      trace := s.trace ++ .write (.plain r) v :: s.pollEvents count } := by
  rw [List.append_cons]
  rfl

/-- Settles O35: the poll ends with the first idle read. -/
theorem protectedWriteSucceeds : Obligations.ProtectedWriteSucceeds := by
  intro s r v k m hm hb hi
  rw [← writePlain_afterPolls]
  exact poll_settles k hm hb hi

/-- Settles O36: the poll uses up its reads. -/
theorem protectedWriteTimesOut : Obligations.ProtectedWriteTimesOut := by
  intro s r v k hb
  rw [← writePlain_afterPolls]
  exact poll_timesOut k hb

/-! ### NOP -/

/-- Settles O17: NOP's procedure has no line, so only the common beginning shows. -/
theorem nopResult : Obligations.NopResult := ⟨by decide, fun _ hwf => exec_wf .nop hwf⟩

/-! ### Safe states -/

/-- On a well-formed configuration every command word is executed to its end, a legal one and any other (R112). -/
theorem deliver_completes {s : State} (hwf : s.cfg.wf = true) (w : Word) : ∃ t, deliver w s = .next t := by
  unfold deliver
  split
  · exact ⟨_, exec_wf _ hwf⟩
  · exact ⟨_, runCommand_wf _ hwf⟩

/-- On a well-formed configuration every defined move is performed. -/
theorem perform_defined {m : Move} {s : State} (hwf : s.cfg.wf = true) (hm : m.defined = true) :
    ∃ t, perform m s = .next t := by
  cases m with
  | hostWrite offset width value =>
    have hport : perform (.hostWrite offset width value) s = if offset = 0x00 then deliver value s else .next s :=
      if_pos hm
    rw [hport]
    split
    · exact deliver_completes hwf value
    · exact ⟨s, rfl⟩
  | hostRead offset width => exact ⟨_, if_pos hm⟩
  | busWrite r v => exact ⟨_, rfl⟩
  | busRead r => exact ⟨_, rfl⟩
  | powerOn => exact ⟨_, rfl⟩

theorem exec_inbox {i : Instr} {s t : State} (h : exec i s = .next t) : t.inbox = s.inbox := by
  rw [exec_withinFrame h]
  cases i <;> rfl

/-- No move adds to the moves that wait or takes from them. -/
theorem perform_inbox {m : Move} {s t : State} (h : perform m s = .next t) : t.inbox = s.inbox := by
  rcases perform_next h with ⟨_, _, _, _, he⟩ | ⟨_, _, _, _, he⟩ | ⟨_, _, _, _, rfl⟩ | ⟨_, _, rfl⟩ | ⟨r, v, _, rfl⟩ |
    ⟨r, _, rfl⟩ | ⟨_, rfl⟩
  · exact exec_inbox he
  · rw [execIllegal_next he]
    rfl
  · rfl
  · rfl
  · cases r <;> rfl
  · cases r <;> rfl
  · rfl

/-- A safe state steps: it is idle, or its next move is defined and leaves the others waiting
(70_reset_and_hazards.md R256). -/
theorem State.Safe.steps {s : State} (h : s.Safe) : ∃ t, step s = .next t ∧ t.Safe := by
  obtain ⟨hwf, hdefined⟩ := h
  cases hi : s.inbox with
  | nil => exact ⟨s, by rw [step_wf hwf, takeMove, hi], hwf, hdefined⟩
  | cons m rest =>
    rw [hi, List.forall_mem_cons] at hdefined
    obtain ⟨hm, hrest⟩ := hdefined
    obtain ⟨t, ht⟩ := perform_defined (s := { s with inbox := rest }) hwf hm
    refine ⟨t, (step_performs hwf hi).trans ht, ?_, ?_⟩
    · rw [perform_cfg ht]
      exact hwf
    · rw [perform_inbox ht]
      exact hrest

/-- Settles O57: the frame of a command refuses nothing but an ill-formed configuration, and safe states step. -/
theorem safeStatesStep : Obligations.SafeStatesStep :=
  ⟨fun _ i hwf => ⟨_, exec_wf i hwf⟩, fun _ h => h.steps⟩

end Sys2Proof.Machine
end

section
/-! SUPPORT. Protected steps played from a script (40_register_sequencer.md R110, R114): what events leave of a state, a
command's list of `ProtectedStep`s run as a procedure, and the two ways such a run ends: every step settles, or one of
them times out and none after it runs. -/

namespace Sys2Proof.Machine

open Sys2Proof

/-! ### The state after some events -/

/-- The event is a read of volatile register `r`, so it uses up a draw (20_memory.md R69). -/
def BusEvent.draws (r : VolatileReg) : BusEvent → Bool
  | .read (.volatile q) _ => decide (q = r)
  | .read (.plain _) _ => false
  | .write _ _ => false
  | .plat _ => false

/-- How many draws of volatile register `r` the events use up. -/
def drawsIn (r : VolatileReg) (events : List BusEvent) : Nat := events.countP (BusEvent.draws r)

/-- The sources of the volatile registers after the reads among the events. -/
def Sources.after (m : Sources) (events : List BusEvent) : Sources where
  gcbStatus := m.gcbStatus.advanceBy (drawsIn .gcbStatus events)
  ctbRvsreq := m.ctbRvsreq.advanceBy (drawsIn .ctbRvsreq events)
  ctbSmpcmp := m.ctbSmpcmp.advanceBy (drawsIn .ctbSmpcmp events)
  ctbCalcode := m.ctbCalcode.advanceBy (drawsIn .ctbCalcode events)

/-- The state after TWS has made the events and they have left the plain registers at `m`. -/
def State.onBus (s : State) (m : Store) (events : List BusEvent) : State :=
  { s with store := m, sources := s.sources.after events, trace := s.trace ++ events }

@[simp] theorem drawsIn_nil (r : VolatileReg) : drawsIn r [] = 0 := rfl

@[simp] theorem drawsIn_append (r : VolatileReg) (a b : List BusEvent) :
    drawsIn r (a ++ b) = drawsIn r a + drawsIn r b := List.countP_append

@[simp] theorem drawsIn_read_plain (r : VolatileReg) (q : PlainReg) (v : Word) (events : List BusEvent) :
    drawsIn r (.read (.plain q) v :: events) = drawsIn r events := rfl

@[simp] theorem drawsIn_read_volatile (r q : VolatileReg) (v : Word) (events : List BusEvent) :
    drawsIn r (.read (.volatile q) v :: events) = drawsIn r events + if q = r then 1 else 0 := by
  simp [drawsIn, List.countP_cons, BusEvent.draws]

@[simp] theorem drawsIn_write (r : VolatileReg) (q : Target) (v : Word) (events : List BusEvent) :
    drawsIn r (.write q v :: events) = drawsIn r events := rfl

@[simp] theorem drawsIn_pollEventsFrom (r : VolatileReg) (s : State) (start count : Nat) :
    drawsIn r (s.pollEventsFrom start count) = if .gcbStatus = r then count else 0 := by
  cases r <;> simp [drawsIn, State.pollEventsFrom, BusEvent.draws, Function.comp_def, List.countP_map]

theorem Source.advance_eq (x : Source) : x.advance = x.advanceBy 1 := x.advance_advanceBy 0

theorem Source.advanceBy_advanceBy (x : Source) (a b : Nat) : (x.advanceBy a).advanceBy b = x.advanceBy (a + b) := by
  simp [Source.advanceBy, Nat.add_assoc]

theorem Sources.after_nil (m : Sources) : m.after [] = m := rfl

theorem Sources.after_append (m : Sources) (a b : List BusEvent) : m.after (a ++ b) = (m.after a).after b := by
  simp [Sources.after, Source.advanceBy_advanceBy]

theorem Sources.get_after (m : Sources) (events : List BusEvent) (r : VolatileReg) :
    (m.after events).get r = (m.get r).advanceBy (drawsIn r events) := by cases r <;> rfl

@[simp] theorem State.onBus_cfg (s : State) (m : Store) (events : List BusEvent) : (s.onBus m events).cfg = s.cfg := rfl

@[simp] theorem State.onBus_store (s : State) (m : Store) (events : List BusEvent) : (s.onBus m events).store = m := rfl

theorem State.onBus_nil (s : State) : s.onBus s.store [] = s := by
  simp [State.onBus, Sources.after_nil]

theorem State.onBus_onBus (s : State) (m m' : Store) (a b : List BusEvent) :
    (s.onBus m a).onBus m' b = s.onBus m' (a ++ b) := by
  simp [State.onBus, Sources.after_append]

theorem State.onBus_source (s : State) (m : Store) (events : List BusEvent) (r : VolatileReg) :
    (s.onBus m events).sources.get r = (s.sources.get r).advanceBy (drawsIn r events) :=
  s.sources.get_after events r

theorem readVolatile_eq_onBus (r : VolatileReg) (s : State) :
    (readVolatile r s).2 = s.onBus s.store [.read (.volatile r) (s.upcoming r 0)] := by
  have h : s.sources.put r (s.sources.get r).advance = s.sources.after [.read (.volatile r) (s.upcoming r 0)] := by
    cases r <;> simp [Sources.after, Sources.put, Sources.get, Source.advance_eq]
  simp [readVolatile, State.consume, State.logEvent, State.onBus, h]

/-- A write of a plain register and the polls after it. -/
theorem writePlain_afterPolls_eq_onBus (r : PlainReg) (v : Word) (s : State) (count : Nat) :
    (writePlain r v s).afterPolls count =
      s.onBus (s.store.put r v) (.write (.plain r) v :: s.pollEventsFrom 0 count) := by
  rw [writePlain_afterPolls, ← State.pollEventsFrom_zero]
  simp [State.onBus, Sources.after]

/-! ### What is still to be drawn -/

theorem State.pollEventsFrom_advanced {s t : State} {m : Nat}
    (h : t.sources.get .gcbStatus = (s.sources.get .gcbStatus).advanceBy m) (start count : Nat) :
    t.pollEventsFrom start count = s.pollEventsFrom (m + start) count := by
  simp [State.pollEventsFrom, State.upcoming_advancedBy h, Nat.add_assoc]

@[simp] theorem State.scriptEvents_nil (s : State) (start : Nat) (polls : List Nat) :
    s.scriptEvents start [] polls = [] := rfl

@[simp] theorem State.scriptEvents_cons (s : State) (start : Nat) (x : ProtectedStep) (steps : List ProtectedStep)
    (m : Nat) (polls : List Nat) : s.scriptEvents start (x :: steps) (m :: polls) =
      x.lead ++ x.event :: s.pollEventsFrom start (m + 1) ++ s.scriptEvents (start + m + 1) steps polls := rfl

theorem State.scriptEvents_advanced {s t : State} {m : Nat}
    (h : t.sources.get .gcbStatus = (s.sources.get .gcbStatus).advanceBy m) (steps : List ProtectedStep) :
    ∀ (start : Nat) (polls : List Nat), t.scriptEvents start steps polls = s.scriptEvents (m + start) steps polls := by
  induction steps with
  | nil => exact fun _ _ => rfl
  | cons x rest ih =>
    rintro start (_ | ⟨p, polls⟩)
    · rfl
    · simp only [State.scriptEvents_cons, State.pollEventsFrom_advanced h, ih, Nat.add_assoc]

section
variable (s : State) (m : Store) (events : List BusEvent)

theorem State.upcoming_onBus (r : VolatileReg) (j : Nat) :
    (s.onBus m events).upcoming r j = s.upcoming r (drawsIn r events + j) :=
  State.upcoming_advancedBy (s.onBus_source m events r) j

theorem State.settles_onBus (start : Nat) (polls : List Nat) :
    (s.onBus m events).Settles start polls ↔ s.Settles (drawsIn .gcbStatus events + start) polls :=
  State.settles_advanced (s.onBus_cfg m events) (s.onBus_source m events _) polls start

theorem State.busyFor_onBus (count : Nat) :
    (s.onBus m events).BusyFor count ↔ s.BusyFrom (drawsIn .gcbStatus events) count := by
  simp only [State.BusyFor, State.BusyFrom, State.upcoming_onBus, State.onBus_cfg]

theorem State.pollEventsFrom_onBus (start count : Nat) :
    (s.onBus m events).pollEventsFrom start count = s.pollEventsFrom (drawsIn .gcbStatus events + start) count :=
  State.pollEventsFrom_advanced (s.onBus_source m events _) start count

theorem State.scriptEvents_onBus (steps : List ProtectedStep) (start : Nat) (polls : List Nat) :
    (s.onBus m events).scriptEvents start steps polls =
      s.scriptEvents (drawsIn .gcbStatus events + start) steps polls :=
  State.scriptEvents_advanced (s.onBus_source m events _) steps start polls

end

/-! The common beginning of a command (60_exceptions.md R215) leaves all of it. -/

@[simp] theorem State.settles_begin (s : State) (start : Nat) (polls : List Nat) :
    s.begin.Settles start polls ↔ s.Settles start polls := by
  simpa using State.settles_advanced (s := s) (t := s.begin) (m := 0) rfl rfl polls start

@[simp] theorem State.scriptEvents_begin (s : State) (start : Nat) (steps : List ProtectedStep) (polls : List Nat) :
    s.begin.scriptEvents start steps polls = s.scriptEvents start steps polls := by
  simpa using State.scriptEvents_advanced (s := s) (t := s.begin) (m := 0) rfl steps start polls

@[simp] theorem State.timeoutEvents_begin (s : State) (done : List ProtectedStep) (polls : List Nat)
    (last : ProtectedStep) : s.begin.timeoutEvents done polls last = s.timeoutEvents done polls last := by
  rw [State.timeoutEvents, State.scriptEvents_begin]
  rfl

/-! ### One protected step -/

/-- A protected step made from any state: its reads, its write, and the poll (R110, R185). -/
def ProtectedStep.perform (x : ProtectedStep) : Action := fun s =>
  writeProtected x.reg x.value x.label (s.onBus s.store x.lead)

/-- The reads before the writes of the steps are not polls. -/
def LeadsApart (steps : List ProtectedStep) : Prop := ∀ x ∈ steps, drawsIn .gcbStatus x.lead = 0

@[simp] theorem writeStep_label (k : Nat) (r : PlainReg) (v : Word) : (writeStep k r v).label = k := rfl

@[simp] theorem writeStep_lead (k : Nat) (r : PlainReg) (v : Word) : (writeStep k r v).lead = [] := rfl

@[simp] theorem writeStep_reg (k : Nat) (r : PlainReg) (v : Word) : (writeStep k r v).reg = r := rfl

@[simp] theorem writeStep_value (k : Nat) (r : PlainReg) (v : Word) : (writeStep k r v).value = v := rfl

@[simp] theorem writeStep_event (k : Nat) (r : PlainReg) (v : Word) :
    (writeStep k r v).event = .write (.plain r) v := rfl

theorem writeStep_perform (k : Nat) (r : PlainReg) (v : Word) (s : State) :
    (writeStep k r v).perform s = writeProtected r v k s := congrArg (writeProtected r v k) s.onBus_nil

/-- The events of a protected step with `count` polls. -/
def ProtectedStep.events (x : ProtectedStep) (s : State) (count : Nat) : List BusEvent :=
  x.lead ++ x.event :: s.pollEventsFrom 0 count

section
variable {s : State} {x : ProtectedStep} (hx : drawsIn .gcbStatus x.lead = 0)
include hx

theorem drawsIn_stepEvents (count : Nat) : drawsIn .gcbStatus (x.events s count) = count := by
  simp [ProtectedStep.events, ProtectedStep.event, hx]

/-- Where a protected step gets with `count` polls. -/
theorem stepWrite_afterPolls (count : Nat) :
    (writePlain x.reg x.value (s.onBus s.store x.lead)).afterPolls count =
      s.onBus (s.store.put x.reg x.value) (x.events s count) := by
  rw [writePlain_afterPolls_eq_onBus, State.onBus_onBus, State.pollEventsFrom_onBus, hx]
  rfl

/-- A protected step that settles leaves the later steps to settle as they were to. -/
theorem perform_settles {m : Nat} {rest : List Nat} (h : s.Settles 0 (m :: rest)) :
    x.perform s = .done () (s.onBus (s.store.put x.reg x.value) (x.events s (m + 1))) ∧
      (s.onBus (s.store.put x.reg x.value) (x.events s (m + 1))).Settles 0 rest := by
  rw [← stepWrite_afterPolls hx]
  refine writeProtected_settles ((s.settles_onBus _ _ 0 _).mpr ?_)
  rwa [hx]

theorem perform_timesOut (h : s.BusyFor s.cfg.pollLimit) :
    x.perform s = .raised (.idleTimeout x.label)
      (s.onBus (s.store.put x.reg x.value) (x.events s s.cfg.pollLimit)) := by
  have hb : (writePlain x.reg x.value (s.onBus s.store x.lead)).BusyFor s.cfg.pollLimit := by
    refine (s.busyFor_onBus s.store x.lead _).mpr ?_
    rwa [hx, State.busyFrom_zero]
  rw [← stepWrite_afterPolls hx]
  exact poll_timesOut x.label hb

end

/-! ### Scripts -/

/-- Protected steps made one after the other (R114). -/
def runScript (steps : List ProtectedStep) : Action := runActions (steps.map ProtectedStep.perform)

theorem Proc.andThen_assoc {α β γ : Type} (p : Proc α) (f : α → State → Proc β) (g : β → State → Proc γ) :
    (p.andThen f).andThen g = p.andThen fun a s => (f a s).andThen g := by
  cases p <;> rfl

theorem runScript_cons (x : ProtectedStep) (steps : List ProtectedStep) (s : State) :
    runScript (x :: steps) s = (x.perform s).andThen fun _ t => runScript steps t := rfl

theorem runScript_append (a b : List ProtectedStep) (s : State) :
    runScript (a ++ b) s = (runScript a s).andThen fun _ t => runScript b t := by
  induction a generalizing s with
  | nil => rfl
  | cons x rest ih => simp only [List.cons_append, runScript_cons, Proc.andThen_assoc, ih]

theorem drawsIn_scriptEvents {steps : List ProtectedStep} (hl : LeadsApart steps) (s : State) :
    ∀ (start : Nat) {polls : List Nat}, polls.length = steps.length →
      drawsIn .gcbStatus (s.scriptEvents start steps polls) = drawsOf polls := by
  induction steps with
  | nil =>
    intro start polls hlen
    rw [List.eq_nil_of_length_eq_zero hlen]
    rfl
  | cons x rest ih =>
    rintro start (_ | ⟨m, polls⟩) hlen
    · simp at hlen
    · obtain ⟨hx, hrest⟩ := List.forall_mem_cons.mp hl
      simp [State.scriptEvents, ProtectedStep.event, hx, ih hrest _ (Nat.succ.inj hlen)]

/-- A script whose steps all settle is done, with every write made and every event in its order. -/
theorem runScript_settles {steps : List ProtectedStep} (hl : LeadsApart steps) {polls : List Nat} {s : State}
    (hlen : polls.length = steps.length) (hs : s.Settles 0 polls) :
    runScript steps s = .done () (s.onBus (stored steps s.store) (s.scriptEvents 0 steps polls)) := by
  induction steps generalizing polls s with
  | nil => exact congrArg _ s.onBus_nil.symm
  | cons x rest ih =>
    obtain _ | ⟨m, polls⟩ := polls
    · simp at hlen
    obtain ⟨hx, hrest⟩ := List.forall_mem_cons.mp hl
    obtain ⟨hdone, hnext⟩ := perform_settles hx hs
    rw [runScript_cons, hdone, Proc.done_andThen, ih hrest (Nat.succ.inj hlen) hnext, State.onBus_onBus,
      State.scriptEvents_onBus, drawsIn_stepEvents hx, State.onBus_store, stored_cons, State.scriptEvents, Nat.zero_add]
    rfl

/-- A script whose step `last` does not settle raises that step's label, with the writes up to that step made and no
later one (R113, R216). -/
theorem runScript_timesOut {done left : List ProtectedStep} {last : ProtectedStep}
    (hl : LeadsApart (done ++ last :: left)) {polls : List Nat} {s : State} (hlen : polls.length = done.length)
    (hs : s.Settles 0 polls) (hb : s.BusyFrom (drawsOf polls) s.cfg.pollLimit) :
    runScript (done ++ last :: left) s = .raised (.idleTimeout last.label)
      (s.onBus (stored (done ++ [last]) s.store) (s.timeoutEvents done polls last)) := by
  obtain ⟨hdone, hlast, _⟩ := List.forall_mem_append.mp hl |>.imp_right List.forall_mem_cons.mp
  have hdraws := drawsIn_scriptEvents hdone s 0 hlen
  have hbusy : (s.onBus (stored done s.store) (s.scriptEvents 0 done polls)).BusyFor s.cfg.pollLimit := by
    rwa [State.busyFor_onBus, hdraws]
  rw [runScript_append, runScript_settles hdone hlen hs, Proc.done_andThen, runScript_cons,
    perform_timesOut hlast hbusy, Proc.raised_andThen, State.onBus_onBus, State.onBus_store, State.onBus_cfg,
    stored_append, stored_cons, stored_nil, State.timeoutEvents, List.append_assoc, ProtectedStep.events,
    State.pollEventsFrom_onBus, hdraws]
  rfl

/-! ### The writes of a trace -/

@[simp] theorem writesOf_nil : writesOf [] = [] := rfl

@[simp] theorem writesOf_read (r : Target) (v : Word) (events : List BusEvent) :
    writesOf (.read r v :: events) = writesOf events := rfl

@[simp] theorem writesOf_write (r : Target) (v : Word) (events : List BusEvent) :
    writesOf (.write r v :: events) = .write r v :: writesOf events := rfl

@[simp] theorem listIf_true {α : Type} (x : α) : listIf true x = [x] := rfl

@[simp] theorem listIf_false {α : Type} (x : α) : listIf false x = [] := rfl

/-! ### Commands that are a script -/

section
variable {i : Instr} {s : State} {steps : List ProtectedStep} {f : Unit → State → Proc Unit}
  (hproc : procedureOf i s.begin = (runScript steps s.begin).andThen f) (hwf : s.cfg.wf = true) (hl : LeadsApart steps)
include hproc hwf hl

theorem exec_script_settles {polls : List Nat} (hlen : polls.length = steps.length) (hs : s.Settles 0 polls) :
    exec i s = .next (settle (f () (s.begin.onBus (stored steps s.store) (s.scriptEvents 0 steps polls)))) := by
  rw [exec_wf i hwf, hproc, runScript_settles hl hlen ((s.settles_begin 0 polls).mpr hs), Proc.done_andThen,
    State.scriptEvents_begin, State.begin_store]

theorem exec_script_timesOut {done left : List ProtectedStep} {last : ProtectedStep}
    (hsteps : steps = done ++ last :: left) {polls : List Nat} (hlen : polls.length = done.length)
    (hs : s.Settles 0 polls) (hb : s.BusyFrom (drawsOf polls) s.cfg.pollLimit) :
    exec i s = .next { s with
      err := .idleTimeout, resultVal := 0, resultFstep := BitVec.ofNat 8 last.label, stkTimeout := true
      store := stored (done ++ [last]) s.store
      sources := s.sources.after (s.timeoutEvents done polls last)
      trace := s.trace ++ s.timeoutEvents done polls last } := by
  subst hsteps
  rw [exec_wf i hwf, hproc, runScript_timesOut hl hlen ((s.settles_begin 0 polls).mpr hs) hb, Proc.raised_andThen,
    State.timeoutEvents_begin]
  rfl

end

end Sys2Proof.Machine
end

section
/-! SUPPORT. Calibration (41_calibration.md): the table look-up, the two procedures of the calibrator as their scripts,
and what CLKUP, MCALEN and MCALDIS leave. -/

namespace Sys2Proof.Machine

open Sys2Proof

/-! ### The look-up -/

/-- The five bits that select a table entry, by the mask of R125. -/
theorem rawCode_toNat {width : Nat} (h : 5 ≤ width) (v : BitVec width) :
    (rawCode v).toNat = (v &&& BitVec.ofNat width 0x1F).toNat := by
  have h32 : 2 ^ 5 ≤ 2 ^ width := Nat.pow_le_pow_right (by decide) h
  rw [rawCode, BitVec.toNat_setWidth, BitVec.toNat_and, BitVec.toNat_ofNat, Nat.mod_eq_of_lt (a := 0x1F) (by omega)]
  exact (Nat.and_two_pow_sub_one_eq_mod v.toNat 5).symm

theorem lookup_eq_getElem? (tab : CalibTable) (variant : Fin 2) {width : Nat} (h : 5 ≤ width) (v : BitVec width) :
    some (lookup tab variant (rawCode v)) =
      (if variant.val = 0 then tab.variant0 else tab.variant1)[(v &&& BitVec.ofNat width 0x1F).toNat]? := by
  rw [← rawCode_toNat h]
  have hlt := (rawCode v).isLt
  by_cases h0 : variant = 0 <;> simp [lookup, h0, Fin.val_eq_zero_iff]

theorem lookup_le_of_wf {c : Config} {tab : CalibTable} (hwf : c.wf = true) (htab : c.calibTable = some tab)
    (variant : Fin 2) (code : BitVec 5) : lookup tab variant code ≤ 31 := by
  simp only [Config.wf, Config.tableOk, htab, Bool.and_eq_true, List.all_eq_true, decide_eq_true_eq] at hwf
  obtain ⟨⟨⟨⟨⟨⟨-, h0, h1⟩, -⟩, -⟩, -⟩, -⟩, -⟩ := hwf
  unfold lookup
  split
  · exact h0 _ (by simp)
  · exact h1 _ (by simp)

/-- The code McalEnable looks up: the table's entry at the next draw of the diagnostic port (R127 steps 2 and 3). -/
def State.tableCode (s : State) (tab : CalibTable) : Nat :=
  lookup tab s.cfg.portVariant (rawCode (s.upcoming .ctbCalcode 0))

theorem State.tableCode_onBus (s : State) (tab : CalibTable) (m : Store) {events : List BusEvent}
    (h : drawsIn .ctbCalcode events = 0) : (s.onBus m events).tableCode tab = s.tableCode tab := by
  rw [State.tableCode, State.upcoming_onBus, h]
  rfl

/-- What McalEnable writes to `CTB_MANCAL` in the statements' words is what the machine looks up. -/
theorem State.manualCode_eq {s : State} {tab : CalibTable} (htab : s.cfg.calibTable = some tab) :
    s.manualCode = some (manualWord (s.tableCode tab)) := by
  have h := lookup_eq_getElem? tab s.cfg.portVariant (by decide) (s.upcoming .ctbCalcode 0)
  rw [← Vector.getElem?_toList] at h
  rw [State.manualCode, htab, Option.map_some, List.getD_eq_getElem?_getD, ← h]
  rfl

theorem lookUp_without_table (imm8 : BitVec 8) {s : State} (h : s.cfg.calibTable = none) :
    lookUp imm8 s = .raised .disabled s := by
  simp [lookUp, h]

theorem lookUp_with_table (imm8 : BitVec 8) {s : State} {tab : CalibTable} (h : s.cfg.calibTable = some tab) :
    lookUp imm8 s =
      .done () { s with resultVal := BitVec.ofNat 8 (lookup tab s.cfg.portVariant (rawCode imm8)) } := by
  simp [lookUp, h]

/-- Settles O37: the table of a well-formed configuration has an entry of at most 31 for every raw code. -/
theorem clkupResult : Obligations.ClkupResult := by
  intro s imm8 hwf
  refine ⟨decode_encode (.clkup imm8), fun hnone => ?_, fun tab htab => ?_⟩
  · rw [exec_wf _ hwf, procedureOf, lookUp_without_table imm8 (s := s.begin) hnone]
    rfl
  · refine ⟨_, lookup_le_of_wf hwf htab _ _, lookup_eq_getElem? tab s.cfg.portVariant (by decide) imm8, ?_⟩
    rw [exec_wf _ hwf, procedureOf, lookUp_with_table imm8 (s := s.begin) htab]
    rfl

/-! ### The procedures as their scripts -/

theorem enableScript_with_table {s : State} {code : Word} (h : s.manualCode = some code) (k0 : Nat) :
    enableScript k0 s = [writeStep k0 .ctbWpunlock s.cfg.wpUnlockCode,
      ⟨k0 + 1, [.read (.volatile .ctbCalcode) (s.upcoming .ctbCalcode 0)], .ctbMancal, code⟩,
      writeStep (k0 + 2) .ctbCalofs (BitVec.ofNat 32 s.cfg.calibOffset)] := by
  rw [enableScript, h]

theorem disableScript_leadsApart (k0 : Nat) (s : State) : LeadsApart (disableScript k0 s) := by
  simp [LeadsApart, disableScript]

theorem enableScript_leadsApart (k0 : Nat) (s : State) : LeadsApart (enableScript k0 s) := by
  cases h : s.manualCode <;> simp [LeadsApart, enableScript, h]

/-- McalDisable makes its script's steps and then clears the two flags (R129). -/
theorem mcalDisable_eq_script (k0 : Nat) (s : State) :
    mcalDisable k0 s = (runScript (disableScript k0 s) s).andThen fun _ t => .done () (calibrationOff t) := by
  simp only [mcalDisable, disableScript, runActions_cons, runScript_cons, writeStep_perform, Proc.andThen_assoc]
  rfl

/-- Two ways to go on after a protected write that agree after every number of polls. -/
theorem writeProtected_andThen_congr {α : Type} {r : PlainReg} {v : Word} {k : Nat} {s : State}
    {f g : Unit → State → Proc α}
    (h : ∀ m, f () ((writePlain r v s).afterPolls m) = g () ((writePlain r v s).afterPolls m)) :
    (writeProtected r v k s).andThen f = (writeProtected r v k s).andThen g := by
  obtain ⟨m, hm | hm⟩ := writeProtected_cases r v k s
  · rw [hm, Proc.done_andThen, Proc.done_andThen, h]
  · rw [hm, Proc.raised_andThen, Proc.raised_andThen]

/-- The steps of McalEnable after the unlock (R127 steps 2 to 5). -/
theorem writeCode_eq_script (tab : CalibTable) (k0 : Nat) (s : State) :
    writeCode tab k0 s = (runScript [
        ⟨k0 + 1, [.read (.volatile .ctbCalcode) (s.upcoming .ctbCalcode 0)], .ctbMancal, manualWord (s.tableCode tab)⟩,
        writeStep (k0 + 2) .ctbCalofs (BitVec.ofNat 32 s.cfg.calibOffset)] s).andThen
      fun _ t => .done (manualWord (s.tableCode tab)) (calibrationOn t) := by
  simp only [writeCode, readVolatile_eq_onBus, runScript_cons, Proc.andThen_assoc, writeStep_perform]
  exact writeProtected_andThen_congr fun _ => rfl

/-- McalEnable with a table makes its script's steps, then sets the flags and returns the word it wrote (R127). The
unlock write and its polls do not touch the diagnostic port, so the draw is the one of the state before it. -/
theorem mcalEnable_eq_script {s : State} {tab : CalibTable} (htab : s.cfg.calibTable = some tab) (k0 : Nat) :
    mcalEnable k0 s = (runScript (enableScript k0 s) s).andThen
      fun _ t => .done (manualWord (s.tableCode tab)) (calibrationOn t) := by
  rw [enableScript_with_table (s.manualCode_eq htab), runScript_cons, writeStep_perform, Proc.andThen_assoc]
  simp only [mcalEnable, htab]
  refine writeProtected_andThen_congr fun m => ?_
  rw [writePlain_afterPolls_eq_onBus, writeCode_eq_script, State.upcoming_onBus, State.tableCode_onBus _ _ _ (by simp),
    drawsIn_write, drawsIn_pollEventsFrom]
  rfl

/-! ### The step that times out -/

/-- How many of the three steps of a calibration command settle before the one that times out. -/
theorem timedOutStep_cases {k : Nat} {polls : List Nat} (h1 : 1 ≤ k) (h3 : k ≤ 3) (hlen : polls.length = k - 1) :
    (k = 1 ∧ polls = []) ∨ (∃ a, k = 2 ∧ polls = [a]) ∨ ∃ a b, k = 3 ∧ polls = [a, b] := by
  obtain rfl | rfl | rfl : k = 1 ∨ k = 2 ∨ k = 3 := by omega
  · exact .inl ⟨rfl, List.length_eq_zero_iff.mp hlen⟩
  · obtain ⟨a, rfl⟩ := List.length_eq_one_iff.mp hlen
    exact .inr (.inl ⟨a, rfl, rfl⟩)
  · obtain ⟨a, b, rfl⟩ := List.length_eq_two.mp hlen
    exact .inr (.inr ⟨a, b, rfl, rfl⟩)

/-! ### MCALEN -/

/-- MCALEN with a table makes the steps of McalEnable's script and returns the low byte of the word it wrote (R128). -/
theorem mcalenProc_eq_script {s : State} {tab : CalibTable} (htab : s.cfg.calibTable = some tab) :
    mcalenProc s = (runScript (enableScript 1 s) s).andThen fun _ t =>
      .done () { calibrationOn t with resultVal := (manualWord (s.tableCode tab)).setWidth 8 } := by
  rw [mcalenProc, mcalEnable_eq_script htab, Proc.andThen_assoc]
  rfl

@[simp] theorem State.tableCode_begin (s : State) (tab : CalibTable) : s.begin.tableCode tab = s.tableCode tab := rfl

theorem manualWord_eq (code : Nat) : manualWord code = 0x80#32 ||| BitVec.ofNat 32 code := rfl

/-- Settles O38: the three steps of McalEnable's script settle. -/
theorem mcalenSuccess : Obligations.McalenSuccess := by
  rintro s tab _ a b c hwf htab hs rfl
  refine ⟨s.tableCode tab, lookup_le_of_wf hwf htab _ _,
    lookup_eq_getElem? tab s.cfg.portVariant (by decide) (s.upcoming .ctbCalcode 0), ?_⟩
  have hsteps := enableScript_with_table (s.manualCode_eq htab) 1
  have hlen : [a, b, c].length = (enableScript 1 s).length := by rw [hsteps]; rfl
  rw [exec_script_settles (i := .mcalen) (mcalenProc_eq_script htab) hwf (enableScript_leadsApart 1 _) hlen hs,
    show enableScript 1 s.begin = _ from hsteps]
  have hdraws : a + 1 + (b + 1 + (c + 1)) = a + b + c + 3 := by omega
  have hlast : a + 1 + b + 1 = a + b + 2 := by omega
  simp [Store.put, State.onBus, Sources.after, calibrationOn, ProtectedStep.event, manualWord_eq, hdraws, hlast]

/-- Settles O39: the steps of McalEnable's script before the one that times out settle. -/
theorem mcalenTimeout : Obligations.McalenTimeout := by
  intro s tab k polls hwf htab h1 h3 hlen hs hb
  have hcode := lookup_eq_getElem? tab s.cfg.portVariant (by decide) (s.upcoming .ctbCalcode 0)
  have hsteps := enableScript_with_table (s.manualCode_eq htab) 1
  have hrun := @exec_script_timesOut .mcalen s _ _ (mcalenProc_eq_script htab) hwf (enableScript_leadsApart 1 _)
  refine ⟨s.tableCode tab, ?_⟩
  obtain ⟨rfl, rfl⟩ | ⟨a, rfl, rfl⟩ | ⟨a, b, rfl, rfl⟩ := timedOutStep_cases h1 h3 hlen
  · refine ⟨_, hrun (done := []) hsteps rfl hs hb, hcode, ?_, ?_⟩
    · simp [Store.put, State.timeoutEvents, Sources.after]
    · simp [writesOf_append, State.timeoutEvents]
  · refine ⟨_, hrun (done := [_]) hsteps rfl hs hb, hcode, ?_, ?_⟩
    · simp [Store.put, State.timeoutEvents, Sources.after, ProtectedStep.event, manualWord_eq]
    · simp [writesOf_append, State.timeoutEvents, ProtectedStep.event, manualWord_eq]
  · refine ⟨_, hrun (done := [_, _]) hsteps rfl hs hb, hcode, ?_, ?_⟩
    · simp [Store.put, State.timeoutEvents, Sources.after, ProtectedStep.event, manualWord_eq, Nat.add_assoc]
    · simp [writesOf_append, State.timeoutEvents, ProtectedStep.event, manualWord_eq]

/-! ### MCALDIS -/

/-- Settles O40: the three steps of McalDisable's script settle. -/
theorem mcaldisSuccess : Obligations.McaldisSuccess := by
  intro s a b c hwf hs
  rw [exec_script_settles (i := .mcaldis) (mcalDisable_eq_script 1 _) hwf (disableScript_leadsApart 1 _)
    (polls := [a, b, c]) rfl hs]
  have hdraws : a + 1 + (b + 1 + (c + 1)) = a + b + c + 3 := by omega
  have hlast : a + 1 + b + 1 = a + b + 2 := by omega
  simp [disableScript, Store.put, State.onBus, Sources.after, calibrationOff, hdraws, hlast]

/-- Settles O41: the steps of McalDisable's script before the one that times out settle. -/
theorem mcaldisTimeout : Obligations.McaldisTimeout := by
  intro s k polls hwf h1 h3 hlen hs hb
  have hrun := @exec_script_timesOut .mcaldis s _ _ (mcalDisable_eq_script 1 _) hwf (disableScript_leadsApart 1 _)
  obtain ⟨rfl, rfl⟩ | ⟨a, rfl, rfl⟩ | ⟨a, b, rfl, rfl⟩ := timedOutStep_cases h1 h3 hlen
  · refine ⟨_, hrun (done := []) rfl rfl hs hb, ?_, ?_⟩
    · simp [Store.put, State.timeoutEvents, Sources.after]
    · simp [writesOf_append, State.timeoutEvents]
  · refine ⟨_, hrun (done := [_]) rfl rfl hs hb, ?_, ?_⟩
    · simp [Store.put, State.timeoutEvents, Sources.after]
    · simp [writesOf_append, State.timeoutEvents]
  · refine ⟨_, hrun (done := [_, _]) rfl rfl hs hb, ?_, ?_⟩
    · simp [Store.put, State.timeoutEvents, Sources.after, Nat.add_assoc]
    · simp [writesOf_append, State.timeoutEvents]

end Sys2Proof.Machine
end

section
/-! SUPPORT. The probe bitmap (42_probe_bitmap.md): what TBEGIN, PROBE, LDBL and LDBH leave. -/

namespace Sys2Proof.Machine

open Sys2Proof

theorem recordProbe_inRange (p : Bool) {idx : BitVec 8} {s : State} (h : idx.toNat < 2 * s.cfg.n) :
    recordProbe p idx s = .done () { s with bitmap := setBit s.bitmap idx.toNat p } := if_pos h

theorem recordProbe_outOfRange (p : Bool) {idx : BitVec 8} {s : State} (h : 2 * s.cfg.n ≤ idx.toNat) :
    recordProbe p idx s = .raised .badOperand s := if_neg (Nat.not_lt.mpr h)

/-- Settles O20: the loop of LDBL starts at index 0. -/
theorem ldblResult : Obligations.LdblResult := by
  intro s imm16 hwf
  have hbit (j : Nat) := loadBits_getLsbD (base := 0) (Config.tapCount_of_wf hwf).2 imm16 16 s.bitmap j
  exact ⟨decode_encode (.ldbl imm16), _, exec_ldbl imm16 hwf, fun j _ => (hbit j).trans (by simp)⟩

/-- Settles O21: the loop of LDBH starts at index 16, where with `N <= 8` no index is below `2N`. -/
theorem ldbhResult : Obligations.LdbhResult := by
  intro s imm16 hwf
  have hbit (j : Nat) := loadBits_getLsbD (base := 16) (Config.tapCount_of_wf hwf).2 imm16 16 s.bitmap j
  refine ⟨decode_encode (.ldbh imm16), _, exec_ldbh imm16 hwf, fun j hj => ?_, fun h8 => ?_⟩
  · exact (hbit j).trans (by simp [hj])
  · refine BitVec.eq_of_getLsbD_eq fun j _ => (hbit j).trans (if_neg ?_)
    omega

/-- Settles O18: TBEGIN's procedure tests neither `tuning_enabled` nor `tuning_active`. -/
theorem tbeginResult : Obligations.TbeginResult := ⟨decode_encode .tbegin, fun _ hwf => exec_wf .tbegin hwf⟩

/-- Settles O19, by the two ends of PROBE's procedure; an index below `2N` is one of the 32 bits. -/
theorem probeResult : Obligations.ProbeResult := by
  intro s p idx hwf
  refine ⟨decode_encode (.probe p idx), fun hin => ?_, fun hout => ?_⟩
  · have hexec : exec (.probe p idx) s = .next { s.begin with bitmap := setBit s.bitmap idx.toNat p } := by
      rw [exec_wf _ hwf, procedureOf, recordProbe_inRange p (s := s.begin) hin]
      rfl
    have hn : s.cfg.n ≤ 16 := (Config.tapCount_of_wf hwf).2
    exact ⟨_, hexec, fun j _ => setBit_getLsbD _ _ _ _ (by omega)⟩
  · rw [exec_wf _ hwf, procedureOf, recordProbe_outOfRange p (s := s.begin) hout]
    rfl

end Sys2Proof.Machine
end

section
/-! SUPPORT. The window selector (43_window_selector.md): what Merge keeps, which run LongestRun selects and where it
can lie in a merged bitmap, what a TUNE that finds a window leaves, and the tap register under the 4-tap quirk. -/

namespace Sys2Proof.Machine

open Sys2Proof

/-! ### Merge -/

/-- An index is a first trial, a second trial, or past both. -/
theorem trial_cases (n j : Nat) : j < n ∨ (∃ i, i < n ∧ j = i + n) ∨ 2 * n ≤ j := by
  by_cases h : n ≤ j ∧ j < 2 * n
  · exact .inr (.inl ⟨j - n, by omega, by omega⟩)
  · omega

/-- A bitmap whose two trials of every tap agree is merged already (R150). -/
theorem merge_of_mirrored {n : Nat} {b : Word} (hn : n ≤ 16) (h : Mirrored n b) : merge n b = b := by
  refine BitVec.eq_of_getLsbD_eq fun j _ => ?_
  obtain hj | ⟨i, hi, rfl⟩ | hj := trial_cases n j
  · rw [merge_getLsbD_low hj hn, ← h j hj, Bool.and_self]
  · rw [merge_getLsbD_high hi hn, h i hi, Bool.and_self]
  · exact merge_getLsbD_past hj hn b

theorem getLsbD_of_merge {n j : Nat} {b : Word} (hn : n ≤ 16) (h : (merge n b).getLsbD j = true) :
    b.getLsbD j = true := by
  obtain hj | ⟨i, hi, rfl⟩ | hj := trial_cases n j
  · rw [merge_getLsbD_low hj hn, Bool.and_eq_true] at h
    exact h.1
  · rw [merge_getLsbD_high hi hn, Bool.and_eq_true] at h
    exact h.2
  · rwa [merge_getLsbD_past hj hn] at h

/-- Settles O23: the merged bitmap is mirrored, so merging it again changes nothing. -/
theorem mergeConfirmsPairs : Obligations.MergeConfirmsPairs := fun _ b _ hn =>
  ⟨fun _ hi => ⟨merge_getLsbD_low hi hn b, merge_getLsbD_high hi hn b⟩, fun _ hj => merge_getLsbD_past hj hn b,
    merge_of_mirrored hn (merge_mirrored hn b), fun _ => getLsbD_of_merge hn⟩

/-! ### The scan -/

/-- `w` is the run that R151 asks for among the indices below `size`: a maximal one, none is longer, and every run as
long starts no earlier; with no run it is all zero. -/
structure IsLongestRun (m : Word) (size : Nat) (w : TapWindow) : Prop where
  none : w.len = 0 → w = ⟨0, 0, 0⟩
  run : 0 < w.len → MaximalRun m size w.start w.last ∧ w.len = w.last - w.start + 1
  longest : ∀ first last, RunAt m size first last →
    last - first + 1 ≤ w.len ∧ (last - first + 1 = w.len → w.start ≤ first)

/-- The best run of the scan so far. -/
def Scan.best (a : Scan) : TapWindow := ⟨a.bestStart, a.bestEnd, a.bestLen⟩

theorem longestRun_eq_best (n : Nat) (m : Word) :
    longestRun n m = ((scanBits m (2 * n)).record (2 * n - 1)).best := rfl

/-- The set bits from `first` up to `count`, with a clear bit before them: the run that ends right before `count`, or no
index at all. -/
structure TrailingRun (m : Word) (first count : Nat) : Prop where
  le : first ≤ count
  set : ∀ i, first ≤ i → i < count → m.getLsbD i = true
  clear : 0 < first → m.getLsbD (first - 1) = false

/-- The scan after the indices below `count` (R151): the current run, which starts at `first`, is the trailing one, and
the best run is the longest one below it. -/
structure Scan.Exact (m : Word) (a : Scan) (first count : Nat) : Prop where
  curLen : first + a.curLen = count
  curStart : 0 < a.curLen → a.curStart = first
  current : TrailingRun m first count
  best : IsLongestRun m first a.best

section
variable {m : Word} {size first count : Nat} {w : TapWindow} {a : Scan}

/-- A run does not reach over a clear bit. -/
theorem RunAt.apart {lo hi i : Nat} (h : RunAt m size lo hi) (hclear : m.getLsbD i = false) : hi < i ∨ i < lo := by
  obtain ⟨_, _, hset⟩ := h
  by_contra hmem
  simp [hset i (by omega) (by omega)] at hclear

/-- A run of the indices below `count` lies before the trailing one or within it. -/
theorem TrailingRun.run_cases (h : TrailingRun m first count) {lo hi : Nat} (hrun : RunAt m count lo hi) :
    RunAt m first lo hi ∨ first ≤ lo := by
  by_cases hlo : first ≤ lo
  · exact .inr hlo
  · have hapart := hrun.apart (h.clear (by omega))
    obtain ⟨hle, _, hset⟩ := hrun
    exact .inl ⟨hle, by omega, hset⟩

/-- A clear bit on top adds no run. -/
theorem IsLongestRun.succ (h : IsLongestRun m size w) (hclear : m.getLsbD size = false) :
    IsLongestRun m (size + 1) w := by
  refine ⟨h.none, fun hlen => ?_, fun lo hi hrun => ?_⟩
  · obtain ⟨⟨⟨hle, hlt, hset⟩, hbefore, hafter⟩, hspan⟩ := h.run hlen
    refine ⟨⟨⟨hle, by omega, hset⟩, hbefore, fun _ => ?_⟩, hspan⟩
    obtain hlast | hlast : w.last + 1 = size ∨ w.last + 1 < size := by omega
    · rwa [hlast]
    · exact hafter hlast
  · have hapart := hrun.apart hclear
    obtain ⟨hle, _, hset⟩ := hrun
    exact h.longest lo hi ⟨hle, by omega, hset⟩

/-- A trailing run that is not longer leaves the longest run what it is: it starts later. -/
theorem IsLongestRun.keep (h : IsLongestRun m first w) (ht : TrailingRun m first count)
    (hlen : count - first ≤ w.len) : IsLongestRun m count w := by
  have hle := ht.le
  refine ⟨h.none, fun hpos => ?_, fun lo hi hrun => ?_⟩
  · obtain ⟨⟨hrun, hbefore, hafter⟩, hspan⟩ := h.run hpos
    have ⟨hle', _, hset⟩ := hrun
    have hapart := hrun.apart (ht.clear (by omega))
    exact ⟨⟨⟨hle', by omega, hset⟩, hbefore, fun _ => hafter (by omega)⟩, hspan⟩
  · obtain hbelow | hwithin := ht.run_cases hrun
    · exact h.longest lo hi hbelow
    · obtain ⟨_, _, _⟩ := hrun
      refine ⟨by omega, fun _ => ?_⟩
      obtain ⟨⟨⟨_, _, _⟩, _⟩, _⟩ := h.run (by omega)
      omega

/-- A longer trailing run is the longest one. -/
theorem IsLongestRun.replace (h : IsLongestRun m first w) (ht : TrailingRun m first count)
    (hlen : w.len < count - first) : IsLongestRun m count ⟨first, count - 1, count - first⟩ := by
  have hrun : RunAt m count first (count - 1) := ⟨by omega, by omega, fun i hi hi' => ht.set i hi (by omega)⟩
  refine ⟨fun h0 => absurd h0 (Nat.ne_zero_of_lt hlen),
    fun _ => ⟨⟨hrun, ht.clear, fun (hroom : count - 1 + 1 < count) => by omega⟩, by dsimp only; omega⟩,
    fun lo hi hlohi => ?_⟩
  dsimp only
  obtain hbelow | hwithin := ht.run_cases hlohi
  · have hshorter := (h.longest lo hi hbelow).1
    omega
  · obtain ⟨_, _, _⟩ := hlohi
    omega

/-- With the current run recorded, at the index it ends at, the best run is the longest one below `count`. -/
theorem Scan.Exact.record (h : a.Exact m first count) : IsLongestRun m count (a.record (count - 1)).best := by
  obtain ⟨hcurLen, hcurStart, hcurrent, hbest⟩ := h
  unfold Scan.record
  split
  · next hgt =>
    have hreplace := hbest.replace hcurrent (show a.bestLen < count - first by omega)
    rwa [← hcurStart (by omega), show count - a.curStart = a.curLen by omega] at hreplace
  · next hngt => exact hbest.keep hcurrent (show count - first ≤ a.bestLen by omega)

/-- A set bit lengthens the current run, or starts it. -/
theorem Scan.Exact.next_set (h : a.Exact m first count) (hbit : m.getLsbD count = true) :
    (a.next count true).Exact m first (count + 1) := by
  obtain ⟨hcurLen, hcurStart, ⟨hle, hset, hclear⟩, hbest⟩ := h
  refine ⟨by simp only [Scan.next, if_true]; omega, fun _ => ?_, ⟨by omega, fun i hi hi' => ?_, hclear⟩, hbest⟩
  · simp only [Scan.next, if_true]
    split <;> omega
  · obtain rfl | hlt := Nat.eq_or_lt_of_le (Nat.le_of_lt_succ hi')
    · exact hbit
    · exact hset i hi hlt

/-- A clear bit ends the current run. -/
theorem Scan.Exact.next_clear (h : a.Exact m first count) (hbit : m.getLsbD count = false) :
    (a.next count false).Exact m (count + 1) (count + 1) where
  curLen := rfl
  curStart := by simp [Scan.next]
  current := ⟨le_rfl, fun _ _ _ => by omega, fun _ => hbit⟩
  best := h.record.succ hbit

end

theorem scanBits_exact (m : Word) (count : Nat) : ∃ first, (scanBits m count).Exact m first count := by
  induction count with
  | zero =>
    refine ⟨0, rfl, nofun, ⟨le_rfl, nofun, nofun⟩, fun _ => rfl, nofun, ?_⟩
    rintro lo hi ⟨_, hlt, _⟩
    exact absurd hlt (Nat.not_lt_zero _)
  | succ i ih =>
    obtain ⟨first, hfirst⟩ := ih
    rw [scanBits]
    cases hbit : m.getLsbD i with
    | true => exact ⟨first, hfirst.next_set hbit⟩
    | false => exact ⟨i + 1, hfirst.next_clear hbit⟩

/-- LongestRun selects the earliest of the longest runs below `2N` (R151). -/
theorem longestRun_isLongestRun (n : Nat) (m : Word) : IsLongestRun m (2 * n) (longestRun n m) := by
  obtain ⟨_, h⟩ := scanBits_exact m (2 * n)
  rw [longestRun_eq_best]
  exact h.record

/-- Settles O24, by the invariant of the scan; with no bit set there is no run, so the length is zero. -/
theorem longestRunEarliest : Obligations.LongestRunEarliest := by
  intro n m
  have h := longestRun_isLongestRun n m
  refine ⟨fun hclear => h.none (Nat.eq_zero_of_not_pos fun hpos => ?_), h.run, h.longest⟩
  obtain ⟨⟨hle, hlt, hset⟩, -, -⟩ := (h.run hpos).1
  exact absurd (hset _ le_rfl hle) (by simp [hclear _ (Nat.lt_of_le_of_lt hle hlt)])

/-! ### The run of a merged bitmap -/

section
variable {n first last : Nat} {m : Word}

/-- In a mirrored bitmap a run of second trials has a twin of first trials. -/
theorem Mirrored.run_below (h : Mirrored n m) (hrun : RunAt m (2 * n) first last) (hn : n ≤ first) :
    RunAt m (2 * n) (first - n) (last - n) := by
  obtain ⟨hle, hlt, hset⟩ := hrun
  refine ⟨by omega, by omega, fun i hi hi' => ?_⟩
  rw [h i (by omega)]
  exact hset _ (by omega) (by omega)

/-- In a mirrored bitmap `N` neighbours reach a trial of every tap, so with them all bits are set. -/
theorem Mirrored.run_whole (h : Mirrored n m) (hrun : RunAt m (2 * n) first last) (hpos : 0 < n)
    (hn : n ≤ last - first + 1) : RunAt m (2 * n) 0 (2 * n - 1) := by
  obtain ⟨hle, hlt, hset⟩ := hrun
  have hlow : ∀ i, i < n → m.getLsbD i = true := fun i hi => by
    by_cases hfirst : first ≤ i
    · exact hset i hfirst (by omega)
    · rw [h i hi]
      exact hset _ (by omega) (by omega)
  refine ⟨by omega, by omega, fun j _ hj => ?_⟩
  obtain hj | ⟨i, hi, rfl⟩ | hj := trial_cases n j
  · exact hlow j hj
  · rw [← h i hi]
    exact hlow i hi
  · omega

end

/-- Settles O25: a run of second trials only is not the earliest of its length, and one of `N` or more indices is part
of the run of all `2N`. -/
theorem mergedWindowBounds : Obligations.MergedWindowBounds := by
  intro n b hpos hn hlen
  have hmir := merge_mirrored hn b
  have h := longestRun_isLongestRun n (merge n b)
  obtain ⟨⟨hrun, -, -⟩, hspan⟩ := h.run hlen
  have ⟨hle, hlt, _⟩ := hrun
  constructor
  · by_contra hstart
    have htwin := (h.longest _ _ (hmir.run_below hrun (by omega))).2
    omega
  · by_contra hlong
    have hwhole := (h.longest _ _ (hmir.run_whole hrun hpos (by omega))).1
    omega

/-! ### TUNE -/

theorem procedureOf_tune_enabled {s : State} (h : s.cfg.tuningEnabled = true) :
    procedureOf .tune s = selectWindow (mergeBitmap s) := if_pos h

theorem selectWindow_accepts {s : State} (h : 3 ≤ (longestRun s.cfg.n s.bitmap).len) :
    selectWindow s = .done () (acceptWindow (longestRun s.cfg.n s.bitmap) s) := if_neg (Nat.not_lt.mpr h)

theorem hwTapTune_eq (c : Config) (timing : Timing) (t : Nat) :
    hwTapTune c timing t = if c.fourTapHs400 = true ∧ timing = .hs400 then t / 2 else t := by
  simp [hwTapTune]

/-- Step 5 of TUNE: the tap, the tap register, `RVSEN`, and the three accesses in order (R155). -/
theorem programTap_eq (t : Nat) (s : State) :
    programTap t s = { s with
      tapSet := BitVec.ofNat 8 t
      store := { s.store with
        ctbTapset := tapWord (hwTapTune s.cfg s.timing t), ctbRvscntl := s.store.ctbRvscntl ||| rvsenMask }
      trace := s.trace ++ [.write (.plain .ctbTapset) (tapWord (hwTapTune s.cfg s.timing t)),
        .read (.plain .ctbRvscntl) s.store.ctbRvscntl,
        .write (.plain .ctbRvscntl) (s.store.ctbRvscntl ||| rvsenMask)] } := by
  simp [programTap, writePlain, readPlain, State.putPlain, State.logEvent, Store.put, Store.get]

/-- Settles O26, by the branch of TUNE that accepts the window and the equation of its step 5. -/
theorem tuneSuccess : Obligations.TuneSuccess := by
  rintro s _ _ hwf henabled rfl hlen rfl
  refine ⟨_, hwTapTune_eq s.cfg s.timing _, ?_⟩
  rw [exec_wf _ hwf, procedureOf_tune_enabled (s := s.begin) henabled,
    selectWindow_accepts (s := mergeBitmap s.begin) hlen, acceptWindow, programTap_eq]
  rfl

/-! ### The tap register under the 4-tap quirk -/

/-- From `s` to `t` the tap and its register are both as they were, or the register holds half the tap (R154, R171). -/
def TapHalved (s t : State) : Prop :=
  (t.store.ctbTapset = s.store.ctbTapset ∧ t.tapSet = s.tapSet) ∨
    t.store.ctbTapset = BitVec.ofNat 32 (t.tapSet.toNat / 2)

section
variable {s : State}

theorem acceptWindow_tapHalved (hwf : s.cfg.wf = true) (hq : s.cfg.fourTapHs400 = true) (hm : s.timing = .hs400)
    (w : TapWindow) : TapHalved s (acceptWindow w s) := by
  obtain ⟨hpos, hn⟩ := Config.tapCount_of_wf hwf
  refine .inr ?_
  rw [acceptWindow, programTap_eq, hwTapTune_eq, if_pos ⟨hq, hm⟩]
  exact congrArg (fun t => tapWord (t / 2)) (tap_toNat hn (selectTap_lt hpos w)).symm

theorem tuneProc_tapHalved (hwf : s.cfg.wf = true) (hq : s.cfg.fourTapHs400 = true) (hm : s.timing = .hs400) :
    TapHalved s (settle (tuneProc s)) := by
  dsimp only [tuneProc, selectWindow]
  split
  · split
    · exact .inl ⟨rfl, rfl⟩
    · exact acceptWindow_tapHalved (s := mergeBitmap s) hwf hq hm _
  · exact .inl ⟨rfl, rfl⟩

theorem moveTap_tapHalved {t : Nat} (hn : s.cfg.n ≤ 16) (ht : t < s.cfg.n) (hq : s.cfg.fourTapHs400 = true) :
    TapHalved s (moveTap t s) := by
  refine .inr ?_
  rw [moveTap, hwTapDrift, if_pos hq]
  exact congrArg (fun t => tapWord (t / 2)) (tap_toNat hn ht).symm

theorem adjust_tapHalved (hwf : s.cfg.wf = true) (hq : s.cfg.fourTapHs400 = true) (ev : DriftEvent) :
    TapHalved s (adjust ev s) := by
  obtain ⟨hpos, hn⟩ := Config.tapCount_of_wf hwf
  cases ev with
  | noError | retuneRequired => exact .inl ⟨rfl, rfl⟩
  | tapUp => exact moveTap_tapHalved hn (tapAbove_lt hpos _) hq
  | tapDown => exact moveTap_tapHalved hn (tapBelow_lt hpos _) hq

end

/-- The auto-correction branch makes no write to a plain register (R168). -/
theorem autoBranch_store (s : State) : (autoBranch s).2.store = s.store := by
  dsimp only [autoBranch]
  split <;> rfl

theorem manualBranch_store (s : State) : (manualBranch s).2.store = s.store := by
  dsimp only [manualBranch]
  split <;> rfl

theorem autoBranch_tapSet (s : State) : (autoBranch s).2.tapSet = s.tapSet := by
  rw [autoBranch_eq_reportOf]
  rfl

theorem manualBranch_tapSet (s : State) : (manualBranch s).2.tapSet = s.tapSet := by
  rw [manualBranch_eq_reportOf]
  rfl

theorem manualBranch_cfg (s : State) : (manualBranch s).2.cfg = s.cfg := by
  rw [manualBranch_eq_reportOf]
  rfl

theorem driftCheck_tapHalved {s : State} (hwf : s.cfg.wf = true) (hq : s.cfg.fourTapHs400 = true) :
    TapHalved s (driftCheck s).2 := by
  dsimp only [driftCheck]
  split
  · split
    · exact .inl ⟨by rw [autoBranch_store]; rfl, autoBranch_tapSet _⟩
    · have hadjust := adjust_tapHalved (s := (manualBranch (readPlain .ctbRvscntl s).2).2)
        (by rwa [manualBranch_cfg]) (by rwa [manualBranch_cfg]) (manualBranch (readPlain .ctbRvscntl s).2).1
      rwa [TapHalved, manualBranch_store, manualBranch_tapSet] at hadjust
  · exact .inl ⟨rfl, rfl⟩

/-- Settles O33: each of the two programs the halved tap wherever it programs one. -/
theorem fourTapHalving : Obligations.FourTapHalving := by
  rintro s t i (rfl | rfl) hq hm h <;> obtain ⟨hwf, rfl⟩ := exec_next h
  · exact tuneProc_tapHalved (s := s.begin) hwf hq hm
  · exact driftCheck_tapHalved (s := s.begin) hwf hq

end Sys2Proof.Machine
end

section
/-! SUPPORT. The retune monitor (44_retune_monitor.md): the mode SETTM sets, when a drift check runs, and the event, the
tap and the accesses of each branch of DRIFT. -/

namespace Sys2Proof.Machine

open Sys2Proof

/-! ### SETTM -/

theorem timingOf_code (imm8 : BitVec 8) : (timingOf imm8).code = imm8.extractLsb' 0 2 := by
  unfold timingOf
  generalize imm8.extractLsb' 0 2 = code
  decide +revert

theorem timingOf_code_toNat {imm8 : BitVec 8} (h : imm8.toNat ≤ 3) : (timingOf imm8).code.toNat = imm8.toNat := by
  rw [timingOf_code, BitVec.extractLsb'_toNat, Nat.shiftRight_zero]
  exact Nat.mod_eq_of_lt (by omega)

theorem setTiming_inRange {imm8 : BitVec 8} (s : State) (h : imm8.toNat ≤ 3) :
    setTiming imm8 s = .done () { s with timing := timingOf imm8 } := if_pos h

theorem setTiming_outOfRange {imm8 : BitVec 8} (s : State) (h : 3 < imm8.toNat) :
    setTiming imm8 s = .raised .badOperand s := if_neg (Nat.not_le.mpr h)

/-- Settles O29, by the two ends of SETTM's procedure; an operand of at most 3 is its own low two bits. -/
theorem settmResult : Obligations.SettmResult := by
  intro s imm8 hwf
  refine ⟨decode_encode (.settm imm8), fun hin => ⟨timingOf imm8, timingOf_code_toNat hin, ?_⟩, fun hout => ?_⟩
  · rw [exec_wf _ hwf, procedureOf, setTiming_inRange _ hin]
    rfl
  · rw [exec_wf _ hwf, procedureOf, setTiming_outOfRange _ hout]
    rfl

/-! ### When a drift check runs -/

theorem retuneMode_iff (c : Config) (timing : Timing) :
    retuneMode c timing = true ↔
      timing = .sdr104 ∨ timing = .hs200 ∨
        (timing = .hs400 ∧ (c.fourTapHs400 = false ∨ c.hs400FourTapCheck = true)) := by
  cases timing <;> simp [retuneMode]

theorem driftGate_iff (s : State) :
    driftGate s = true ↔
      s.cfg.tuningEnabled = true ∧ s.tuningActive = false ∧
        (s.timing = .sdr104 ∨ s.timing = .hs200 ∨
          (s.timing = .hs400 ∧ (s.cfg.fourTapHs400 = false ∨ s.cfg.hs400FourTapCheck = true))) := by
  rw [← retuneMode_iff, driftGate, Bool.and_eq_true, Bool.and_eq_true, Bool.not_eq_true', and_assoc,
    and_comm (a := retuneMode _ _ = true)]

/-- DRIFT answers the state its check leaves, with the event and the tap reported (R172). -/
theorem exec_drift {s t : State} {ev : DriftEvent} (hwf : s.cfg.wf = true) (h : driftCheck s.begin = (ev, t)) :
    exec .drift s = .next { t with driftEv := ev, resultVal := t.tapSet } := by
  rw [exec_wf _ hwf]
  simp [procedureOf, update, settle, driftProc, h]

theorem driftCheck_gatedOut {s : State} (h : driftGate s = false) : driftCheck s = (.noError, s) := by
  simp [driftCheck, h]

/-- Settles O30: the gate is read off its definition, and without a check only the report changes. -/
theorem driftGateResult : Obligations.DriftGate :=
  ⟨driftGate_iff, fun s hwf h => exec_drift hwf (driftCheck_gatedOut (s := s.begin) h)⟩

/-! ### The accesses of a drift check -/

theorem readPlain_eq_onBus (r : PlainReg) (s : State) :
    (readPlain r s).2 = s.onBus s.store [BusEvent.read (.plain r) (s.store.get r)] := rfl

theorem writeVolatile_eq_onBus (r : VolatileReg) (v : Word) (s : State) :
    writeVolatile r v s = s.onBus s.store [BusEvent.write (.volatile r) v] := rfl

theorem Sources.after_listIf_write (m : Sources) (b : Bool) (r : Target) (v : Word) :
    m.after (listIf b (.write r v)) = m := by
  cases b <;> rfl

theorem Sources.after_listIf_read_smpcmp (m : Sources) (b : Bool) (v : Word) :
    m.after (listIf b (.read (.volatile .ctbSmpcmp) v)) =
      { m with ctbSmpcmp := if b then m.ctbSmpcmp.advanceBy 1 else m.ctbSmpcmp } := by
  cases b <;> rfl

/-! ### The auto-correction branch -/

theorem autoBranch_eq (s : State) :
    autoBranch s =
      (if errorFlag (s.upcoming .ctbRvsreq 0) then .retuneRequired else .noError,
        s.onBus s.store ([BusEvent.read (.volatile .ctbRvsreq) (s.upcoming .ctbRvsreq 0)] ++
          listIf (errorFlag (s.upcoming .ctbRvsreq 0))
            (BusEvent.write (.volatile .ctbRvsreq) (s.upcoming .ctbRvsreq 0 &&& ~~~ rvserrMask)))) := by
  cases h : errorFlag (s.upcoming .ctbRvsreq 0) <;>
    simp [autoBranch, h, readVolatile_eq_onBus, writeVolatile_eq_onBus, State.onBus_onBus]

/-- Where `RVSEN` reads 1 the check is that read and the auto-correction branch (R167, R168). -/
theorem driftCheck_auto {s : State} (hgate : driftGate s = true) (h : autoCorrectOn s.store.ctbRvscntl = true) :
    driftCheck s =
      (if errorFlag (s.upcoming .ctbRvsreq 0) then .retuneRequired else .noError,
        s.onBus s.store ([BusEvent.read (.plain .ctbRvscntl) s.store.ctbRvscntl,
            BusEvent.read (.volatile .ctbRvsreq) (s.upcoming .ctbRvsreq 0)] ++
          listIf (errorFlag (s.upcoming .ctbRvsreq 0))
            (BusEvent.write (.volatile .ctbRvsreq) (s.upcoming .ctbRvsreq 0 &&& ~~~ rvserrMask)))) := by
  have hbranch : driftCheck s = autoBranch (readPlain .ctbRvscntl s).2 := (if_pos hgate).trans (if_pos h)
  rw [hbranch, autoBranch_eq, readPlain_eq_onBus, State.onBus_onBus]
  rfl

/-- Settles O31: the check takes the auto-correction branch after its read of `RVSEN`, and that branch draws once. -/
theorem driftAutoBranch : Obligations.DriftAutoBranch := by
  rintro s _ hwf hgate hrvsen rfl
  rw [exec_drift hwf (driftCheck_auto (s := s.begin) hgate hrvsen), State.onBus, Sources.after_append,
    Sources.after_listIf_write, List.append_assoc]
  rfl

/-! ### The manual branch -/

/-- The event of the manual branch: from the command-comparison flags of `v` in the special case and from the request
register `q` otherwise (R169). -/
def manualEvent (special : Bool) (q v : Word) : DriftEvent :=
  if special then classifySpecial (commandUp v) (commandDown v) else classifyNormal q

theorem classifySpecial_eq (up down : Bool) :
    classifySpecial up down =
      if up = true ∧ down = true then .retuneRequired
      else if up = true then .tapUp
      else if down = true then .tapDown
      else .noError := by
  cases up <;> cases down <;> rfl

theorem manualBranch_eq (s : State) :
    manualBranch s =
      (manualEvent (specialCase s) (s.upcoming .ctbRvsreq 0) (s.upcoming .ctbSmpcmp 0),
        s.onBus s.store ([BusEvent.read (.volatile .ctbRvsreq) (s.upcoming .ctbRvsreq 0)] ++
          listIf (specialCase s) (BusEvent.read (.volatile .ctbSmpcmp) (s.upcoming .ctbSmpcmp 0)))) := by
  cases h : specialCase s <;>
    simp [manualBranch, h, manualEvent, readVolatile_eq_onBus, State.onBus_onBus, State.upcoming_onBus]

/-- The event calls for a move of the tap (R171). -/
def DriftEvent.moves (ev : DriftEvent) : Bool := decide (ev = .tapUp ∨ ev = .tapDown)

/-- The tap a move goes to: one up on TapUp, else one down (R171). -/
def movedTap (ev : DriftEvent) (n t : Nat) : Nat := if ev = .tapUp then tapAbove n t else tapBelow n t

/-- The state after `events` of a drift check that reported `ev`: where the event calls for a move, `tap_set` has moved
to `tap` and the tap register holds it, halved under the 4-tap quirk (R171). -/
def State.afterMove (s : State) (ev : DriftEvent) (tap : Nat) (events : List BusEvent) : State :=
  { s with tapSet := if ev.moves then BitVec.ofNat 8 tap else s.tapSet }.onBus
    (if ev.moves then { s.store with ctbTapset := tapWord (hwTapDrift s.cfg tap) } else s.store)
    (events ++ listIf ev.moves (BusEvent.write (.plain .ctbTapset) (tapWord (hwTapDrift s.cfg tap))))

theorem State.afterMove_onBus (s : State) (ev : DriftEvent) (tap : Nat) (a b : List BusEvent) :
    (s.onBus s.store a).afterMove ev tap b = s.afterMove ev tap (a ++ b) := by
  rw [State.afterMove, State.afterMove, List.append_assoc, ← State.onBus_onBus _ s.store _ a]
  rfl

theorem adjust_eq (ev : DriftEvent) (s : State) :
    adjust ev s = s.afterMove ev (movedTap ev s.cfg.n s.tapSet.toNat) [] := by
  cases ev with
  | noError | retuneRequired => exact s.onBus_nil.symm
  | tapUp | tapDown => rfl

/-- Where `RVSEN` reads 0 the check is that read, the manual branch's reads, and the adjustment (R167 to R171). -/
theorem driftCheck_manual {s : State} {ev : DriftEvent} (hgate : driftGate s = true)
    (h : autoCorrectOn s.store.ctbRvscntl = false)
    (hev : ev = manualEvent (specialCase s) (s.upcoming .ctbRvsreq 0) (s.upcoming .ctbSmpcmp 0)) :
    driftCheck s =
      (ev, s.afterMove ev (movedTap ev s.cfg.n s.tapSet.toNat)
        ([BusEvent.read (.plain .ctbRvscntl) s.store.ctbRvscntl,
            BusEvent.read (.volatile .ctbRvsreq) (s.upcoming .ctbRvsreq 0)] ++
          listIf (specialCase s) (BusEvent.read (.volatile .ctbSmpcmp) (s.upcoming .ctbSmpcmp 0)))) := by
  subst hev
  have hbranch : driftCheck s = manualCheck (readPlain .ctbRvscntl s).2 :=
    (if_pos hgate).trans (if_neg (Bool.eq_false_iff.mp h))
  rw [hbranch, manualCheck, adjust_eq, manualBranch_eq, State.afterMove_onBus, readPlain_eq_onBus,
    State.afterMove_onBus, List.append_nil]
  rfl

/-- Settles O32: the statement's two flags and its event are those the machine computes, and the check takes the manual
branch after its read of `RVSEN`. -/
theorem driftManualBranch : Obligations.DriftManualBranch := by
  rintro s _ _ special moved ev _ _ hwf hgate hrvsen rfl rfl hspecial hev hmoved rfl rfl
  obtain rfl : special = specialCase s := Bool.eq_iff_iff.mpr (hspecial.trans (by simp [specialCase]))
  obtain rfl : moved = ev.moves := Bool.eq_iff_iff.mpr (hmoved.trans decide_eq_true_iff.symm)
  have hevent : ev = manualEvent (specialCase s) (s.upcoming .ctbRvsreq 0) (s.upcoming .ctbSmpcmp 0) := by
    rw [hev, manualEvent, classifySpecial_eq]
    rfl
  rw [exec_drift hwf (driftCheck_manual (s := s.begin) hgate hrvsen hevent), State.afterMove, State.onBus,
    Sources.after_append, Sources.after_listIf_write, Sources.after_append, Sources.after_listIf_read_smpcmp,
    List.append_assoc, List.append_assoc, List.append_assoc]
  rfl

end Sys2Proof.Machine
end

section
/-! SUPPORT. Sequences of protected steps in two parts (45_hs400_sequencer.md R186 to R188): between the parts only
the two flags of the calibrator change, which no protected step looks at; either every step settles or one of them
times out; and the draws and the writes among the events of both runs. -/

namespace Sys2Proof.Machine

open Sys2Proof

/-! ### The flags of the calibrator -/

/-- The state with the two flags of the calibrator set (41_calibration.md R127, R129). -/
def State.withFlags (s : State) (active needs : Bool) : State := { s with mcalActive := active, needsAdjust := needs }

/-- The end of a procedure with the two flags of the calibrator set. -/
def Proc.withFlags {α : Type} (p : Proc α) (active needs : Bool) : Proc α :=
  match p with
  | .done a s => .done a (s.withFlags active needs)
  | .raised x s => .raised x (s.withFlags active needs)

theorem poll_withFlags (k left : Nat) (s : State) (active needs : Bool) :
    poll k left (s.withFlags active needs) = (poll k left s).withFlags active needs := by
  induction left generalizing s with
  | zero => rfl
  | succ left ih =>
    have hstep : poll k (left + 1) (s.withFlags active needs) =
        if idle s.cfg (readVolatile .gcbStatus s).1 then .done () ((readVolatile .gcbStatus s).2.withFlags active needs)
        else poll k left ((readVolatile .gcbStatus s).2.withFlags active needs) := rfl
    rw [hstep, ih, poll]
    split <;> rfl

theorem perform_withFlags (x : ProtectedStep) (s : State) (active needs : Bool) :
    x.perform (s.withFlags active needs) = (x.perform s).withFlags active needs :=
  poll_withFlags x.label s.cfg.pollLimit (writePlain x.reg x.value (s.onBus s.store x.lead)) active needs

/-- No protected step looks at the flags of the calibrator. -/
theorem runScript_withFlags (steps : List ProtectedStep) (s : State) (active needs : Bool) :
    runScript steps (s.withFlags active needs) = (runScript steps s).withFlags active needs := by
  induction steps generalizing s with
  | nil => rfl
  | cons x rest ih =>
    rw [runScript_cons, runScript_cons, perform_withFlags]
    cases x.perform s with
    | done u t => exact ih t
    | raised y t => rfl

/-! ### Two parts with the flags set in between -/

/-- The steps `first`, then the two flags, then the steps `second`, then the closing line. -/
def phased (first second : List ProtectedStep) (active needs : Bool) (closing : State → State) : Action := fun s =>
  (runScript first s).andThen fun _ t =>
    (runScript second (t.withFlags active needs)).andThen fun _ u => .done () (closing u)

/-- What a script raises is the label of one of its steps (40_register_sequencer.md R113). -/
theorem runScript_raised {steps : List ProtectedStep} {s t : State} {y : Raise} (h : runScript steps s = .raised y t) :
    ∃ x ∈ steps, y = .idleTimeout x.label := by
  induction steps generalizing s with
  | nil => cases h
  | cons x rest ih =>
    rw [runScript_cons] at h
    obtain ⟨m, hx | hx⟩ := writeProtected_cases x.reg x.value x.label (s.onBus s.store x.lead)
    · rw [ProtectedStep.perform, hx, Proc.done_andThen] at h
      obtain ⟨z, hz, hy⟩ := ih h
      exact ⟨z, List.mem_cons_of_mem x hz, hy⟩
    · rw [ProtectedStep.perform, hx, Proc.raised_andThen] at h
      injection h with hy
      exact ⟨x, List.mem_cons_self, hy.symm⟩

section
variable {first second : List ProtectedStep} {active needs : Bool} {closing : State → State} {s t : State}

theorem phased_done (h : runScript (first ++ second) s = .done () t) :
    phased first second active needs closing s = .done () (closing (t.withFlags active needs)) := by
  rw [runScript_append] at h
  rw [phased]
  cases hfirst : runScript first s with
  | raised y u => simp [hfirst] at h
  | done _ u =>
    rw [hfirst, Proc.done_andThen] at h
    rw [Proc.done_andThen, runScript_withFlags, h]
    rfl

/-- Where a step times out, the flags are set when its label is past those of the first part. -/
theorem phased_raised {k bound : Nat} (hfirst : ∀ x ∈ first, x.label ≤ bound) (hsecond : ∀ x ∈ second, bound < x.label)
    (h : runScript (first ++ second) s = .raised (.idleTimeout k) t) :
    phased first second active needs closing s =
      .raised (.idleTimeout k) (if k ≤ bound then t else t.withFlags active needs) := by
  rw [runScript_append] at h
  rw [phased]
  cases hrun : runScript first s with
  | raised y u =>
    rw [hrun, Proc.raised_andThen] at h
    cases h
    obtain ⟨x, hx, hk⟩ := runScript_raised hrun
    cases hk
    rw [Proc.raised_andThen, if_pos (hfirst x hx)]
  | done _ u =>
    rw [hrun, Proc.done_andThen] at h
    obtain ⟨x, hx, hk⟩ := runScript_raised h
    cases hk
    rw [Proc.done_andThen, runScript_withFlags, h, if_neg (Nat.not_le.mpr (hsecond x hx))]
    rfl

end

/-! ### Either every step settles or one times out -/

/-- Protected writes that poll one after the other all settle, or some first ones do and the next one never reads idle
(40_register_sequencer.md R110). -/
theorem State.settles_or_busy (s : State) (count start : Nat) :
    (∃ polls, polls.length = count ∧ s.Settles start polls) ∨
      ∃ polls, polls.length < count ∧ s.Settles start polls ∧ s.BusyFrom (start + drawsOf polls) s.cfg.pollLimit := by
  induction count generalizing start with
  | zero => exact .inl ⟨[], rfl, trivial⟩
  | succ count ih =>
    by_cases hidle : ∃ m, m < s.cfg.pollLimit ∧ idle s.cfg (s.upcoming .gcbStatus (start + m)) = true
    · obtain ⟨hlt, hi⟩ := Nat.find_spec hidle
      have hbusy : s.BusyFrom start (Nat.find hidle) := fun j hj =>
        Bool.eq_false_iff.mpr fun h => Nat.find_min hidle hj ⟨hj.trans hlt, h⟩
      rcases ih (start + Nat.find hidle + 1) with ⟨polls, hlen, hs⟩ | ⟨polls, hlen, hs, hb⟩
      · exact .inl ⟨Nat.find hidle :: polls, congrArg (· + 1) hlen, hlt, hbusy, hi, hs⟩
      · refine .inr ⟨Nat.find hidle :: polls, Nat.succ_lt_succ hlen, ⟨hlt, hbusy, hi, hs⟩, ?_⟩
        rwa [drawsOf_cons, ← Nat.add_assoc, ← Nat.add_assoc]
    · refine .inr ⟨[], Nat.succ_pos count, trivial, fun j hj => Bool.eq_false_iff.mpr fun h => hidle ⟨j, hj, h⟩⟩

/-- The steps `done` before `last` settle after `polls` busy reads, and `last` does not settle. -/
structure State.StopsAt (s : State) (steps done : List ProtectedStep) (last : ProtectedStep)
    (left : List ProtectedStep) (polls : List Nat) : Prop where
  split : steps = done ++ last :: left
  length : polls.length = done.length
  settles : s.Settles 0 polls
  busy : s.BusyFrom (drawsOf polls) s.cfg.pollLimit

theorem State.settles_or_stopsAt (s : State) (steps : List ProtectedStep) :
    (∃ polls, polls.length = steps.length ∧ s.Settles 0 polls) ∨
      ∃ done last left polls, s.StopsAt steps done last left polls := by
  rcases s.settles_or_busy steps.length 0 with h | ⟨polls, hlen, hs, hb⟩
  · exact .inl h
  · rw [Nat.zero_add] at hb
    refine .inr ⟨steps.take polls.length, steps[polls.length], steps.drop (polls.length + 1), polls, ?_, ?_, hs, hb⟩
    · rw [List.getElem_cons_drop, List.take_append_drop]
    · rw [List.length_take, Nat.min_eq_left hlen.le]

/-! ### Draws and writes among the events -/

@[simp] theorem drawsIn_plat (r : VolatileReg) (v : Word) (events : List BusEvent) :
    drawsIn r (.plat v :: events) = drawsIn r events := rfl

@[simp] theorem writesOf_plat (v : Word) (events : List BusEvent) :
    writesOf (.plat v :: events) = .plat v :: writesOf events := rfl

/-- How many draws of volatile register `r` the reads before the writes of the steps use up. -/
def leadDraws (r : VolatileReg) (steps : List ProtectedStep) : Nat := drawsIn r (steps.flatMap ProtectedStep.lead)

@[simp] theorem leadDraws_nil (r : VolatileReg) : leadDraws r [] = 0 := rfl

@[simp] theorem leadDraws_cons (r : VolatileReg) (x : ProtectedStep) (steps : List ProtectedStep) :
    leadDraws r (x :: steps) = drawsIn r x.lead + leadDraws r steps := by
  simp [leadDraws]

@[simp] theorem leadDraws_append (r : VolatileReg) (a b : List ProtectedStep) :
    leadDraws r (a ++ b) = leadDraws r a + leadDraws r b := by
  simp [leadDraws]

/-- The reads before the writes of the steps do not draw from volatile register `r`. -/
def LeadsSkip (r : VolatileReg) (steps : List ProtectedStep) : Prop := ∀ x ∈ steps, drawsIn r x.lead = 0

theorem LeadsSkip.leadDraws {r : VolatileReg} {steps : List ProtectedStep} (h : LeadsSkip r steps) :
    leadDraws r steps = 0 := by
  induction steps with
  | nil => rfl
  | cons x rest ih =>
    obtain ⟨hx, hrest⟩ := List.forall_mem_cons.mp h
    rw [leadDraws_cons, hx, ih hrest]

theorem drawsIn_scriptEvents_eq (r : VolatileReg) (s : State) {steps : List ProtectedStep} {polls : List Nat} :
    ∀ start, polls.length = steps.length → drawsIn r (s.scriptEvents start steps polls) =
      leadDraws r steps + if .gcbStatus = r then drawsOf polls else 0 := by
  induction steps generalizing polls with
  | nil =>
    intro start hlen
    rw [List.eq_nil_of_length_eq_zero hlen]
    simp
  | cons x rest ih =>
    obtain _ | ⟨m, polls⟩ := polls
    · simp
    intro start hlen
    rw [State.scriptEvents_cons, drawsIn_append, drawsIn_append, ProtectedStep.event, drawsIn_write,
      drawsIn_pollEventsFrom, ih _ (Nat.succ.inj hlen), leadDraws_cons, drawsOf_cons]
    split <;> omega

theorem drawsIn_timeoutEvents (r : VolatileReg) (s : State) {done : List ProtectedStep} {polls : List Nat}
    (last : ProtectedStep) (hlen : polls.length = done.length) :
    drawsIn r (s.timeoutEvents done polls last) =
      leadDraws r (done ++ [last]) + if .gcbStatus = r then drawsOf polls + s.cfg.pollLimit else 0 := by
  rw [State.timeoutEvents, drawsIn_append, drawsIn_append, drawsIn_scriptEvents_eq r s 0 hlen, ProtectedStep.event,
    drawsIn_write, drawsIn_pollEventsFrom, leadDraws_append, leadDraws_cons, leadDraws_nil]
  split <;> omega

/-- The steps draw from no volatile register before their writes but, perhaps, from the diagnostic port. -/
def LeadsCalm (steps : List ProtectedStep) : Prop := ∀ r, r ≠ .ctbCalcode → LeadsSkip r steps

/-- The sources after events that draw from `GCB_STATUS` and the diagnostic port only. -/
theorem Sources.after_eq {m : Sources} {events : List BusEvent} {polled codes : Nat}
    (hpolled : drawsIn .gcbStatus events = polled) (hcodes : drawsIn .ctbCalcode events = codes)
    (hrvsreq : drawsIn .ctbRvsreq events = 0) (hsmpcmp : drawsIn .ctbSmpcmp events = 0) :
    m.after events =
      { m with gcbStatus := m.gcbStatus.advanceBy polled, ctbCalcode := m.ctbCalcode.advanceBy codes } := by
  simp [Sources.after, hpolled, hcodes, hrvsreq, hsmpcmp]

theorem Sources.after_scriptEvents (m : Sources) (s : State) {steps : List ProtectedStep} {polls : List Nat}
    (hl : LeadsCalm steps) (hlen : polls.length = steps.length) :
    m.after (s.scriptEvents 0 steps polls) = { m with
      gcbStatus := m.gcbStatus.advanceBy (drawsOf polls)
      ctbCalcode := m.ctbCalcode.advanceBy (leadDraws .ctbCalcode steps) } := by
  have hdraws (r : VolatileReg) := drawsIn_scriptEvents_eq r s 0 hlen
  apply Sources.after_eq
  · simp [hdraws, (hl .gcbStatus (by decide)).leadDraws]
  · simp [hdraws]
  · simp [hdraws, (hl .ctbRvsreq (by decide)).leadDraws]
  · simp [hdraws, (hl .ctbSmpcmp (by decide)).leadDraws]

theorem Sources.after_timeoutEvents (m : Sources) (s : State) {done : List ProtectedStep} {last : ProtectedStep}
    {polls : List Nat} (hl : LeadsCalm (done ++ [last])) (hlen : polls.length = done.length) :
    m.after (s.timeoutEvents done polls last) = { m with
      gcbStatus := m.gcbStatus.advanceBy (drawsOf polls + s.cfg.pollLimit)
      ctbCalcode := m.ctbCalcode.advanceBy (leadDraws .ctbCalcode (done ++ [last])) } := by
  have hdraws (r : VolatileReg) := drawsIn_timeoutEvents r s last hlen
  apply Sources.after_eq
  · rw [hdraws, (hl .gcbStatus (by decide)).leadDraws]
    simp
  · simp [hdraws]
  · rw [hdraws, (hl .ctbRvsreq (by decide)).leadDraws]
    simp
  · rw [hdraws, (hl .ctbSmpcmp (by decide)).leadDraws]
    simp

/-- The events before the writes of the steps are reads. -/
def LeadsRead (steps : List ProtectedStep) : Prop := ∀ x ∈ steps, writesOf x.lead = []

theorem writesOf_scriptEvents (s : State) {steps : List ProtectedStep} (hl : LeadsRead steps) {polls : List Nat} :
    ∀ start, polls.length = steps.length →
      writesOf (s.scriptEvents start steps polls) = steps.map ProtectedStep.event := by
  induction steps generalizing polls with
  | nil => exact fun _ _ => rfl
  | cons x rest ih =>
    obtain _ | ⟨m, polls⟩ := polls
    · simp
    intro start hlen
    obtain ⟨hx, hrest⟩ := List.forall_mem_cons.mp hl
    simp [writesOf_append, hx, ih hrest _ (Nat.succ.inj hlen), ProtectedStep.event]

theorem writesOf_timeoutEvents (s : State) {done : List ProtectedStep} {last : ProtectedStep}
    (hl : LeadsRead (done ++ [last])) {polls : List Nat} (hlen : polls.length = done.length) :
    writesOf (s.timeoutEvents done polls last) = (done ++ [last]).map ProtectedStep.event := by
  obtain ⟨hdone, hlast⟩ := List.forall_mem_append.mp hl
  rw [List.forall_mem_singleton] at hlast
  simp [State.timeoutEvents, writesOf_append, writesOf_scriptEvents s hdone 0 hlen, hlast, ProtectedStep.event]

end Sys2Proof.Machine
end

section
/-! SUPPORT. The procedures of HS4ENT, HS4EXT and HWRST as scripts in two parts (45_hs400_sequencer.md R185 to
R188): the lines of each sequence play (`Plays`) the steps of its script one by one, since no step changes a
register that a later line reads, but for the pause and the resume of the clock. -/

namespace Sys2Proof.Machine

open Sys2Proof

/-! ### Lines that make protected steps -/

/-- The lines `l` make the protected steps `steps` and go on with `f`, from every state that events without a draw
of the diagnostic port lead to from `s`, the plain registers being at `m`. -/
def Plays (s : State) (m : Store) (l : List Action) (steps : List ProtectedStep) (f : Unit → State → Proc Unit) :
    Prop :=
  ∀ events, drawsIn .ctbCalcode events = 0 →
    runActions l (s.onBus m events) = (runScript steps (s.onBus m events)).andThen f

/-- Everything a protected step can do: its write and some polls, and then it is done or has raised its own label. -/
theorem perform_cases {x : ProtectedStep} (hx : drawsIn .gcbStatus x.lead = 0) (s : State) :
    ∃ count, x.perform s = .done () (s.onBus (s.store.put x.reg x.value) (x.events s count)) ∨
      x.perform s = .raised (.idleTimeout x.label) (s.onBus (s.store.put x.reg x.value) (x.events s count)) := by
  obtain ⟨count, h⟩ := writeProtected_cases x.reg x.value x.label (s.onBus s.store x.lead)
  rw [stepWrite_afterPolls hx] at h
  exact ⟨count, h⟩

section
variable {s : State} {m : Store} {l : List Action} {steps : List ProtectedStep} {f : Unit → State → Proc Unit}
  {a : Action} {x : ProtectedStep} {r : PlainReg} {clr set old v : Word} {k : Nat} {test : State → Bool} {b : Bool}

theorem Plays.step (ha : ∀ events, a (s.onBus m events) = x.perform (s.onBus m events))
    (hx : ∀ q, drawsIn q x.lead = 0) (h : Plays s (m.put x.reg x.value) l steps f) :
    Plays s m (a :: l) (x :: steps) f := by
  intro events hevents
  rw [runActions_cons, runScript_cons, ha, Proc.andThen_assoc]
  obtain ⟨count, hp | hp⟩ := perform_cases (hx _) (s.onBus m events)
  · rw [hp, Proc.done_andThen, Proc.done_andThen, State.onBus_onBus]
    refine h _ ?_
    simp [hevents, hx, ProtectedStep.events, ProtectedStep.event]
  · rw [hp, Proc.raised_andThen, Proc.raised_andThen]

theorem Plays.skip (ha : ∀ events, a (s.onBus m events) = .done () (s.onBus m events)) (h : Plays s m l steps f) :
    Plays s m (a :: l) steps f := by
  intro events hevents
  rw [runActions_cons, ha, Proc.done_andThen]
  exact h events hevents

/-- A conditional line makes a conditional step. -/
theorem Plays.stepIf (hb : ∀ events, test (s.onBus m events) = b)
    (ha : ∀ events, a (s.onBus m events) = x.perform (s.onBus m events)) (hx : ∀ q, drawsIn q x.lead = 0)
    (h : Plays s (stored (stepsIf b [x]) m) l steps f) :
    Plays s m (onlyIf test a :: l) (stepsIf b [x] ++ steps) f := by
  cases b with
  | true => exact Plays.step (fun events => (onlyIf_true (hb events)).trans (ha events)) hx h
  | false => exact Plays.skip (fun events => onlyIf_false (hb events)) h

theorem rmwStep_performs (hold : m.get r = old) (hv : (old &&& ~~~ clr) ||| set = v) (events : List BusEvent) :
    rmwProtected r clr set k (s.onBus m events) = (rmwStep k r old v).perform (s.onBus m events) := by
  subst hold hv
  rfl

theorem writeStep_performs (events : List BusEvent) :
    writeProtected r v k (s.onBus m events) = (writeStep k r v).perform (s.onBus m events) :=
  (writeStep_perform k r v _).symm

theorem Plays.rmw (hold : m.get r = old) (hv : (old &&& ~~~ clr) ||| set = v) (h : Plays s (m.put r v) l steps f) :
    Plays s m (rmwProtected r clr set k :: l) (rmwStep k r old v :: steps) f :=
  Plays.step (rmwStep_performs hold hv) (fun _ => rfl) h

theorem Plays.write (h : Plays s (m.put r v) l steps f) :
    Plays s m (writeProtected r v k :: l) (writeStep k r v :: steps) f :=
  Plays.step writeStep_performs (fun _ => rfl) h

end

/-! ### The values of the steps -/

theorem Store.get_put (m : Store) (r q : PlainReg) (v : Word) :
    (m.put r v).get q = if q = r then v else m.get q := by
  split
  · next h => rw [h, Store.get_put_same]
  · next h => exact m.get_put_other v h

theorem Store.get_stored_stepsIf (m : Store) (b : Bool) (x : ProtectedStep) (q : PlainReg) :
    (stored (stepsIf b [x]) m).get q = if b = true ∧ q = x.reg then x.value else m.get q := by
  cases b
  · rfl
  · simp [stepsIf, Store.get_put]

theorem set_bits (v w : Word) : (v &&& ~~~ 0#32) ||| w = v ||| w := by
  rw [BitVec.not_zero, BitVec.and_allOnes]

theorem clear_bits (v w : Word) : (v &&& ~~~ w) ||| 0#32 = v &&& ~~~ w := BitVec.or_zero

theorem set_cleared_bits (v w : Word) : (v &&& ~~~ w) ||| w = v ||| w := by
  ext i hi
  cases hw : w[i] <;> simp [hw]

@[simp] theorem rmwStep_reg (k : Nat) (r : PlainReg) (old v : Word) : (rmwStep k r old v).reg = r := rfl

@[simp] theorem tapnumStep_reg (k count : Nat) (s : State) : (tapnumStep k count s).reg = .ctbTapcfg := rfl

/-- The steps of HS4ENT before the calibrator's (R186). -/
def hs4entSwitch (s : State) : List ProtectedStep :=
  [pauseStep 1 s, rmwStep 2 .gcbIfmode s.store.gcbIfmode (s.store.gcbIfmode ||| 0x1#32),
    writeStep 3 .ctbTappos s.cfg.tapposHs400] ++
  stepsIf (!s.cfg.capHs400Autocorr) [rmwStep 4 .ctbRvscntl s.store.ctbRvscntl (s.store.ctbRvscntl &&& ~~~ 0x1#32)] ++
  [rmwStep 5 .ctbAdjctl s.store.ctbAdjctl (s.store.ctbAdjctl ||| 0x3#32)] ++
  stepsIf s.cfg.fourTapHs400
    [tapnumStep 6 (s.cfg.n / 2) s, writeStep 7 .ctbTapset (BitVec.ofNat 32 (s.tapSet.toNat / 2))] ++
  [resumeStep 8 s]

/-- The steps of HS4EXT after the calibrator's (R187). -/
def hs4extSwitch (s : State) : List ProtectedStep :=
  [pauseStep 4 s] ++
  stepsIf s.cfg.fourTapHs400
    [tapnumStep 5 s.cfg.n s, writeStep 6 .ctbTapset (BitVec.ofNat 32 s.tapSet.toNat)] ++
  [rmwStep 7 .ctbAdjctl s.store.ctbAdjctl (s.store.ctbAdjctl &&& ~~~ 0x3#32)] ++
  stepsIf (!s.cfg.capHs400Autocorr) [rmwStep 8 .ctbRvscntl s.store.ctbRvscntl (s.store.ctbRvscntl ||| 0x1#32)] ++
  [writeStep 9 .ctbTappos s.cfg.tapposDefault,
    rmwStep 10 .gcbIfmode s.store.gcbIfmode (s.store.gcbIfmode &&& ~~~ 0x1#32), resumeStep 11 s]

/-- The steps of HWRST after the calibrator's (R188). -/
def hwrstSwitch (s : State) : List ProtectedStep :=
  [pauseStep 4 s] ++
  stepsIf s.cfg.fourTapHs400 [tapnumStep 5 s.cfg.n s] ++
  [writeStep 6 .ctbTapset 0,
    rmwStep 7 .ctbAdjctl s.store.ctbAdjctl (s.store.ctbAdjctl &&& ~~~ 0x3#32),
    rmwStep 8 .ctbRvscntl s.store.ctbRvscntl (s.store.ctbRvscntl &&& ~~~ 0x1#32),
    writeStep 9 .ctbTappos s.cfg.tapposDefault,
    rmwStep 10 .gcbIfmode s.store.gcbIfmode (s.store.gcbIfmode &&& ~~~ 0x1#32), resumeStep 11 s]

theorem hs4entScript_eq (s : State) :
    hs4entScript s = hs4entSwitch s ++ stepsIf s.cfg.manualCalib (enableScript 9 s) := rfl

theorem hs4extScript_eq (s : State) :
    hs4extScript s = stepsIf s.mcalActive (disableScript 1 s) ++ hs4extSwitch s := by
  simp only [hs4extScript, hs4extSwitch, List.append_assoc]

theorem hwrstScript_eq (s : State) :
    hwrstScript s = stepsIf s.mcalActive (disableScript 1 s) ++ hwrstSwitch s := by
  simp only [hwrstScript, hwrstSwitch, List.append_assoc]

/-- Two steps under one condition are two conditional steps. -/
theorem stepsIf_pair (b : Bool) (x y : ProtectedStep) : stepsIf b [x, y] = stepsIf b [x] ++ stepsIf b [y] := by
  cases b <;> rfl

/-- The lines of HS4ENT between the platform write and the flags make the steps of its switch (R186). -/
theorem hs4entSwitch_plays {s : State} {f : Unit → State → Proc Unit}
    (h : ∀ m, Plays s m (hs4entLines.drop 9) [] f) :
    Plays s (s.store.put .platCtrl s.cfg.platHs400On) hs4entLines.tail (hs4entSwitch s) f := by
  simp only [hs4entSwitch, stepsIf_pair, List.append_assoc, List.cons_append, List.nil_append]
  refine .rmw rfl (clear_bits _ _) <| .rmw rfl (set_bits _ _) <| .step (fun _ => writeStep_performs _) (fun _ => rfl) <|
    .stepIf (fun _ => rfl) (rmwStep_performs rfl (clear_bits _ _)) (fun _ => rfl) <|
    .rmw ?_ (set_bits _ _) <|
    .stepIf (fun _ => rfl) (rmwStep_performs (set := tapWord (s.cfg.n / 2)) ?_ rfl) (fun _ => rfl) <|
    .stepIf (fun _ => rfl) (writeStep_performs (v := tapWord (s.tapSet.toNat / 2))) (fun _ => rfl) <|
    .rmw ?_ ((set_bits _ _).trans (set_cleared_bits _ _)) <| h _
  all_goals simp [Store.get_stored_stepsIf, Store.get_put] <;> rfl

/-- The lines of HS4EXT after the calibrator's make the steps of its switch (R187). -/
theorem hs4extSwitch_plays {s t : State} {m : Store} (hcfg : t.cfg = s.cfg) (htap : t.tapSet = s.tapSet)
    (hm : ∀ r, .plain r ∉ mcalWrites → m.get r = s.store.get r) :
    Plays t m hs4extLines.tail (hs4extSwitch s) fun _ u => .done () (platWrite u.cfg.platHs400Off u) := by
  simp only [hs4extSwitch, stepsIf_pair, List.append_assoc, List.cons_append, List.nil_append, ← hcfg, ← htap]
  refine .rmw ?_ (clear_bits _ _) <|
    .stepIf (fun _ => rfl) (rmwStep_performs (set := tapWord t.cfg.n) ?_ rfl) (fun _ => rfl) <|
    .stepIf (fun _ => rfl) (writeStep_performs (v := tapWord t.tapSet.toNat)) (fun _ => rfl) <|
    .rmw ?_ (clear_bits _ _) <|
    .stepIf (fun _ => rfl) (rmwStep_performs ?_ (set_bits _ _)) (fun _ => rfl) <|
    .step (fun _ => writeStep_performs _) (fun _ => rfl) <|
    .rmw ?_ (clear_bits _ _) <|
    .rmw ?_ ((set_bits _ _).trans (set_cleared_bits _ _)) <| fun _ _ => rfl
  all_goals simp [Store.get_stored_stepsIf, Store.get_put, hm, mcalWrites] <;> rfl

/-- The lines of HWRST after the calibrator's make the steps of its switch (R188). -/
theorem hwrstSwitch_plays {s t : State} {m : Store} (hcfg : t.cfg = s.cfg)
    (hm : ∀ r, .plain r ∉ mcalWrites → m.get r = s.store.get r) :
    Plays t m hwrstLines.tail (hwrstSwitch s) fun _ u => .done () (baseline u) := by
  simp only [hwrstSwitch, List.cons_append, List.nil_append, ← hcfg]
  refine .rmw ?_ (clear_bits _ _) <|
    .stepIf (fun _ => rfl) (rmwStep_performs (set := tapWord t.cfg.n) ?_ rfl) (fun _ => rfl) <|
    .write <| .rmw ?_ (clear_bits _ _) <| .rmw ?_ (clear_bits _ _) <|
    .step (fun _ => writeStep_performs _) (fun _ => rfl) <|
    .rmw ?_ (clear_bits _ _) <|
    .rmw ?_ ((set_bits _ _).trans (set_cleared_bits _ _)) <| fun _ _ => rfl
  all_goals simp [Store.get_stored_stepsIf, Store.get_put, hm, mcalWrites] <;> rfl

/-! ### The procedures as their scripts -/

/-- The word the calibrator writes in HS4ENT, where the device asks for calibration and has a table (R186). -/
def State.enterCode (s : State) : Option Word := if s.cfg.manualCalib = true then s.manualCode else none

/-- The flags HS4ENT leaves: the calibrator has run, or else still has to where the device asks for it (R186). -/
def enterClosing (s t : State) : State :=
  t.withFlags (s.mcalActive || s.enterCode.isSome) (s.cfg.manualCalib && s.enterCode.isNone)

theorem State.manualCode_of_no_table {s : State} (h : s.cfg.calibTable = none) : s.manualCode = none := by
  rw [State.manualCode, h, Option.map_none]

theorem enableScript_of_no_code (k0 : Nat) {s : State} (h : s.manualCode = none) : enableScript k0 s = [] := by
  rw [enableScript, h]

theorem enableScript_onBus (k0 : Nat) (s : State) (m : Store) {events : List BusEvent}
    (h : drawsIn .ctbCalcode events = 0) : enableScript k0 (s.onBus m events) = enableScript k0 s := by
  simp only [enableScript, State.manualCode, State.upcoming_onBus, h, Nat.zero_add, State.onBus_cfg]
  rfl

theorem mcalEnable_without_table (k0 : Nat) {s : State} (h : s.cfg.calibTable = none) :
    mcalEnable k0 s = .done 0 s := by
  simp only [mcalEnable, h]

/-- The last lines of HS4ENT set the flag and make the calibrator's steps (R186). -/
theorem hs4entCalibration_plays (s : State) (m : Store) :
    Plays s m (hs4entLines.drop 9) [] fun _ t =>
      (runScript (stepsIf s.cfg.manualCalib (enableScript 9 s)) (t.withFlags s.mcalActive s.cfg.manualCalib)).andThen
        fun _ u => .done () (enterClosing s u) := by
  intro events hevents
  change
    (onlyIf State.needsAdjust enterCalibration ((s.onBus m events).withFlags s.mcalActive s.cfg.manualCalib)).andThen
      (fun _ t => .done () t) =
    (runScript _ ((s.onBus m events).withFlags s.mcalActive s.cfg.manualCalib)).andThen _
  cases hmanual : s.cfg.manualCalib with
  | false => simp [onlyIf, State.withFlags, stepsIf, runScript, enterClosing, State.enterCode, hmanual]
  | true =>
    rw [onlyIf_true rfl, enterCalibration]
    cases htab : s.cfg.calibTable with
    | none =>
      have hcode := State.manualCode_of_no_table htab
      rw [mcalEnable_without_table 9 (by exact htab), stepsIf, if_pos rfl, enableScript_of_no_code 9 hcode]
      simp [runScript, State.withFlags, enterClosing, State.enterCode, hmanual, hcode]
    | some tab =>
      have hcode := State.manualCode_eq htab
      have hclosing (u : State) : enterClosing s u = calibrationOn u := by
        simp [enterClosing, State.enterCode, hmanual, hcode, State.withFlags, calibrationOn]
      have hscript : enableScript 9 ((s.onBus m events).withFlags s.mcalActive true) = enableScript 9 s :=
        enableScript_onBus 9 s m hevents
      rw [mcalEnable_eq_script (tab := tab) (by exact htab), hscript, Proc.andThen_assoc, Proc.andThen_assoc]
      simp only [hclosing]
      rfl

/-- HS4ENT is its platform write, then its switch and the calibrator's steps with the flags set in between (R186). -/
theorem hs4entProc_eq_phased {s : State} (h : s.cfg.hs400Disabled = false) :
    hs4entProc s = phased (hs4entSwitch s) (stepsIf s.cfg.manualCalib (enableScript 9 s)) s.mcalActive s.cfg.manualCalib
      (enterClosing s) (s.onBus (s.store.put .platCtrl s.cfg.platHs400On) [BusEvent.plat s.cfg.platHs400On]) := by
  rw [hs4entProc, h]
  exact hs4entSwitch_plays (hs4entCalibration_plays s) [BusEvent.plat s.cfg.platHs400On] rfl

/-- Two ways to go on after some steps that agree wherever the steps can lead. -/
theorem runScript_andThen_congr {steps : List ProtectedStep} (hpoll : LeadsApart steps)
    (hcode : LeadsSkip .ctbCalcode steps) {s : State} {f g : Unit → State → Proc Unit}
    (h : ∀ events, drawsIn .ctbCalcode events = 0 →
      f () (s.onBus (stored steps s.store) events) = g () (s.onBus (stored steps s.store) events)) :
    (runScript steps s).andThen f = (runScript steps s).andThen g := by
  rcases s.settles_or_stopsAt steps with ⟨polls, hlen, hs⟩ | ⟨done, last, left, polls, rfl, hlen, hs, hb⟩
  · rw [runScript_settles hpoll hlen hs, Proc.done_andThen, Proc.done_andThen]
    exact h _ (by rw [drawsIn_scriptEvents_eq _ _ _ hlen, hcode.leadDraws]; rfl)
  · rw [runScript_timesOut hpoll hlen hs hb, Proc.raised_andThen, Proc.raised_andThen]

theorem stored_get_of_not_mem {steps : List ProtectedStep} {r : PlainReg} (h : ∀ x ∈ steps, r ≠ x.reg) (m : Store) :
    (stored steps m).get r = m.get r := by
  induction steps generalizing m with
  | nil => rfl
  | cons x rest ih =>
    obtain ⟨hx, hrest⟩ := List.forall_mem_cons.mp h
    rw [stored_cons, ih hrest, Store.get_put_other _ _ hx]

theorem disableScript_get {k0 : Nat} {s : State} {r : PlainReg} (h : .plain r ∉ mcalWrites) (m : Store) :
    (stored (disableScript k0 s) m).get r = m.get r :=
  stored_get_of_not_mem (by simpa [disableScript, mcalWrites] using h) m

/-- A sequence that begins by switching the calibrator off, where it is on, is the steps of McalDisable and then
those of its other lines, with the flags cleared in between where McalDisable ran (R187, R188, 41_calibration.md
R129). -/
theorem exitLines_eq_phased {s : State} {l : List Action} {steps : List ProtectedStep} {closing : State → State}
    (h : ∀ t m, t.cfg = s.cfg → t.tapSet = s.tapSet → (∀ r, .plain r ∉ mcalWrites → m.get r = s.store.get r) →
      Plays t m l steps fun _ u => .done () (closing u)) :
    runActions (onlyIf State.mcalActive (mcalDisable 1) :: l) s =
      phased (stepsIf s.mcalActive (disableScript 1 s)) steps false (s.needsAdjust && !s.mcalActive) closing s := by
  cases hactive : s.mcalActive with
  | false =>
    have hflags : s.withFlags false (s.needsAdjust && !false) = s := by
      rw [Bool.not_false, Bool.and_true, ← hactive]
      rfl
    have hplay := h s s.store rfl rfl (fun _ _ => rfl) [] rfl
    rw [State.onBus_nil] at hplay
    rw [runActions_done (onlyIf_false hactive), hplay]
    change _ = (runScript steps (s.withFlags false (s.needsAdjust && !false))).andThen _
    rw [hflags]
  | true =>
    rw [runActions_cons, onlyIf_true hactive, mcalDisable_eq_script, Proc.andThen_assoc, Bool.not_true, Bool.and_false]
    have hcodes : LeadsSkip .ctbCalcode (disableScript 1 s) := by simp [LeadsSkip, disableScript]
    exact runScript_andThen_congr (disableScript_leadsApart 1 s) hcodes fun events hevents =>
      h (calibrationOff s) _ rfl rfl (fun r hr => disableScript_get hr s.store) events hevents

theorem hs4extLines_eq_phased (s : State) :
    runActions hs4extLines s = phased (stepsIf s.mcalActive (disableScript 1 s)) (hs4extSwitch s) false
      (s.needsAdjust && !s.mcalActive) (fun t => platWrite t.cfg.platHs400Off t) s :=
  exitLines_eq_phased fun _ _ hcfg htap hm => hs4extSwitch_plays hcfg htap hm

theorem hwrstLines_eq_phased (s : State) :
    runActions hwrstLines s = phased (stepsIf s.mcalActive (disableScript 1 s)) (hwrstSwitch s) false
      (s.needsAdjust && !s.mcalActive) baseline s :=
  exitLines_eq_phased fun _ _ hcfg _ hm => hwrstSwitch_plays hcfg hm

end Sys2Proof.Machine
end

section
/-! SUPPORT. The scripts of the commands (45_hs400_sequencer.md R189): their labels stand in the order of one table,
and the reads before their writes draw from the diagnostic port only; and a command in two parts run to its end or
to the step that times out. -/

namespace Sys2Proof.Machine

open Sys2Proof

/-! ### The labels of a script -/

/-- The labels of a command in order, with the registers they name (R189). -/
def stepTable (i : Instr) : List (Nat × PlainReg) :=
  (List.range' 1 11).filterMap fun k => (stepRegister i k).map (Prod.mk k)

/-- The label of a step with the register it writes. -/
def ProtectedStep.tag (x : ProtectedStep) : Nat × PlainReg := (x.label, x.reg)

theorem mem_stepTable {i : Instr} {k : Nat} {r : PlainReg} (h : (k, r) ∈ stepTable i) :
    k ≤ 11 ∧ stepRegister i k = some r := by
  simp only [stepTable, List.mem_filterMap, Option.map_eq_some_iff, Prod.mk.injEq] at h
  obtain ⟨j, hj, q, hq, rfl, rfl⟩ := h
  rw [List.mem_range'_1] at hj
  exact ⟨by omega, hq⟩

theorem stepTable_sorted (i : Instr) : (stepTable i).Pairwise fun a b => a.1 < b.1 := by
  rw [stepTable, List.pairwise_filterMap]
  refine (List.pairwise_lt_range' (s := 1) (n := 11)).imp fun {a b} hab x hx y hy => ?_
  obtain ⟨_, _, rfl⟩ := Option.map_eq_some_iff.mp hx
  obtain ⟨_, _, rfl⟩ := Option.map_eq_some_iff.mp hy
  exact hab

theorem stepsIf_sublist (b : Bool) (steps : List ProtectedStep) : (stepsIf b steps).Sublist steps := by
  cases b with
  | true => exact List.Sublist.refl _
  | false => exact List.nil_sublist _

theorem enableScript_tags (k0 : Nat) (s : State) : ((enableScript k0 s).map ProtectedStep.tag).Sublist
    [(k0, .ctbWpunlock), (k0 + 1, .ctbMancal), (k0 + 2, .ctbCalofs)] := by
  cases h : s.manualCode with
  | none => rw [enableScript_of_no_code k0 h]; exact List.nil_sublist _
  | some code => rw [enableScript_with_table h]; exact List.Sublist.refl _

theorem hs4entSwitch_tags (s : State) :
    ((hs4entSwitch s).map ProtectedStep.tag).Sublist ((stepTable .hs4ent).take 8) :=
  (((((List.Sublist.refl _).append (stepsIf_sublist _ _)).append (.refl _)).append
    (stepsIf_sublist _ _)).append (.refl _)).map ProtectedStep.tag

theorem enterCalibration_tags (s : State) :
    ((stepsIf s.cfg.manualCalib (enableScript 9 s)).map ProtectedStep.tag).Sublist ((stepTable .hs4ent).drop 8) :=
  ((stepsIf_sublist _ _).map ProtectedStep.tag).trans (enableScript_tags 9 s)

theorem hs4entScript_tags (s : State) : ((hs4entScript s).map ProtectedStep.tag).Sublist (stepTable .hs4ent) := by
  rw [hs4entScript_eq, List.map_append, ← List.take_append_drop 8 (stepTable .hs4ent)]
  exact (hs4entSwitch_tags s).append (enterCalibration_tags s)

theorem hs4extScript_tags (s : State) : ((hs4extScript s).map ProtectedStep.tag).Sublist (stepTable .hs4ext) :=
  ((((((stepsIf_sublist _ _).append (.refl _)).append (stepsIf_sublist _ _)).append (.refl _)).append
    (stepsIf_sublist _ _)).append (.refl _)).map ProtectedStep.tag

theorem hwrstScript_tags (s : State) : ((hwrstScript s).map ProtectedStep.tag).Sublist (stepTable .hwrst) :=
  ((((stepsIf_sublist _ _).append (.refl _)).append (stepsIf_sublist _ _)).append (.refl _)).map ProtectedStep.tag

/-- The steps of a command have labels of its table, in order, each with the register it names (R115, R189). -/
theorem scriptOf_tags (i : Instr) (s : State) : ((scriptOf i s).map ProtectedStep.tag).Sublist (stepTable i) := by
  cases i with
  | hs4ent => exact hs4entScript_tags s
  | hs4ext => exact hs4extScript_tags s
  | hwrst => exact hwrstScript_tags s
  | mcalen => exact enableScript_tags 1 s
  | mcaldis => exact List.Sublist.refl _
  | _ => exact List.nil_sublist _

theorem scriptOf_sorted (i : Instr) (s : State) : (scriptOf i s).Pairwise fun x y => x.label < y.label := by
  have h := (stepTable_sorted i).sublist (scriptOf_tags i s)
  rwa [List.pairwise_map] at h

theorem scriptOf_label {i : Instr} {s : State} {x : ProtectedStep} (hx : x ∈ scriptOf i s) :
    x.label ≤ 11 ∧ stepRegister i x.label = some x.reg :=
  mem_stepTable ((scriptOf_tags i s).subset (List.mem_map_of_mem hx))

/-- The step that stops a command has a label past those of the steps before it and before those of the steps left. -/
theorem scriptOf_split_labels {i : Instr} {s : State} {done left : List ProtectedStep} {last : ProtectedStep}
    (h : scriptOf i s = done ++ last :: left) :
    (∀ x ∈ done, x.label < last.label) ∧ ∀ x ∈ left, last.label < x.label := by
  have hsorted := scriptOf_sorted i s
  rw [h, List.pairwise_append] at hsorted
  obtain ⟨_, hleft, hdone⟩ := hsorted
  exact ⟨fun x hx => hdone x hx last List.mem_cons_self, fun _ hx => List.rel_of_pairwise_cons hleft hx⟩

/-! ### The reads before the writes -/

@[simp] theorem forall_mem_stepsIf {b : Bool} {steps : List ProtectedStep} {p : ProtectedStep → Prop} :
    (∀ x ∈ stepsIf b steps, p x) ↔ (b = true → ∀ x ∈ steps, p x) := by
  cases b <;> simp [stepsIf]

/-- A step has no read before its write but of a plain register. -/
def ProtectedStep.LeadPlain (x : ProtectedStep) : Prop := (∀ r, drawsIn r x.lead = 0) ∧ writesOf x.lead = []

theorem writeStep_leadPlain (k : Nat) (r : PlainReg) (v : Word) : (writeStep k r v).LeadPlain := ⟨fun _ => rfl, rfl⟩

theorem rmwStep_leadPlain (k : Nat) (r : PlainReg) (old v : Word) : (rmwStep k r old v).LeadPlain :=
  ⟨fun _ => rfl, rfl⟩

theorem enableScript_leads (k0 : Nat) (s : State) : LeadsCalm (enableScript k0 s) ∧ LeadsRead (enableScript k0 s) := by
  cases h : s.manualCode with
  | none =>
    rw [enableScript_of_no_code k0 h]
    exact ⟨fun _ _ => nofun, nofun⟩
  | some code =>
    rw [enableScript_with_table h]
    exact ⟨fun r hr => by simp [LeadsSkip, hr.symm], by simp [LeadsRead]⟩

theorem disableScript_leads (k0 : Nat) (s : State) : ∀ x ∈ disableScript k0 s, x.LeadPlain := by
  simp [disableScript, writeStep_leadPlain]

theorem hs4entSwitch_leads (s : State) : ∀ x ∈ hs4entSwitch s, x.LeadPlain := by
  simp only [hs4entSwitch, List.forall_mem_append, forall_mem_stepsIf, List.forall_mem_cons]
  simp [pauseStep, resumeStep, tapnumStep, rmwStep_leadPlain, writeStep_leadPlain]

theorem hs4extScript_leads (s : State) : ∀ x ∈ hs4extScript s, x.LeadPlain := by
  simp only [hs4extScript, List.forall_mem_append, forall_mem_stepsIf, List.forall_mem_cons]
  simp [pauseStep, resumeStep, tapnumStep, rmwStep_leadPlain, writeStep_leadPlain, disableScript]

theorem hwrstScript_leads (s : State) : ∀ x ∈ hwrstScript s, x.LeadPlain := by
  simp only [hwrstScript, List.forall_mem_append, forall_mem_stepsIf, List.forall_mem_cons]
  simp [pauseStep, resumeStep, tapnumStep, rmwStep_leadPlain, writeStep_leadPlain, disableScript]


theorem leadsCalm_of_plain {steps : List ProtectedStep} (h : ∀ x ∈ steps, x.LeadPlain) : LeadsCalm steps :=
  fun r _ x hx => (h x hx).1 r

theorem leadsRead_of_plain {steps : List ProtectedStep} (h : ∀ x ∈ steps, x.LeadPlain) : LeadsRead steps :=
  fun x hx => (h x hx).2

theorem leadDraws_of_plain {steps : List ProtectedStep} (h : ∀ x ∈ steps, x.LeadPlain) (r : VolatileReg) :
    leadDraws r steps = 0 :=
  LeadsSkip.leadDraws fun x hx => (h x hx).1 r

/-! ### Commands in two parts -/

theorem Sources.after_of_no_draws {events : List BusEvent} (h : ∀ r, drawsIn r events = 0) (m : Sources) :
    m.after events = m := by
  simp [Sources.after, h]

theorem State.timeoutEvents_onBus (s : State) (m : Store) {events : List BusEvent}
    (h : drawsIn .gcbStatus events = 0) (done : List ProtectedStep) (polls : List Nat) (last : ProtectedStep) :
    (s.onBus m events).timeoutEvents done polls last = s.timeoutEvents done polls last := by
  rw [State.timeoutEvents, State.scriptEvents_onBus, State.pollEventsFrom_onBus, h, Nat.zero_add, Nat.zero_add]
  rfl

section
variable {i : Instr} {s : State} {first second : List ProtectedStep} {active needs : Bool} {closing : State → State}
  {m : Store} {opening : List BusEvent}
  (hproc : procedureOf i s.begin = phased first second active needs closing (s.begin.onBus m opening))
  (hopen : ∀ r, drawsIn r opening = 0) (hwf : s.cfg.wf = true) (hl : LeadsCalm (first ++ second))
include hproc hopen hwf hl

/-- A command in two parts whose steps all settle makes all its writes and closes. -/
theorem exec_phased_settles {polls : List Nat} (hlen : polls.length = (first ++ second).length)
    (hs : s.Settles 0 polls) :
    exec i s = .next (closing { s with
      err := .ok, resultVal := 0, resultFstep := 0, mcalActive := active, needsAdjust := needs
      store := stored (first ++ second) m
      sources := { s.sources with
        gcbStatus := s.sources.gcbStatus.advanceBy (drawsOf polls)
        ctbCalcode := s.sources.ctbCalcode.advanceBy (leadDraws .ctbCalcode (first ++ second)) }
      trace := s.trace ++ (opening ++ s.scriptEvents 0 (first ++ second) polls) }) := by
  have hs' : (s.begin.onBus m opening).Settles 0 polls := by
    rwa [State.settles_onBus, hopen, State.settles_begin]
  have hrun := runScript_settles (hl .gcbStatus (by decide)) hlen hs'
  rw [exec_wf i hwf, hproc, phased_done hrun, State.onBus_store, State.onBus_onBus, State.scriptEvents_onBus, hopen,
    State.scriptEvents_begin, State.onBus, Sources.after_append, Sources.after_of_no_draws hopen,
    Sources.after_scriptEvents _ _ hl hlen]
  rfl

/-- A command in two parts one of whose steps does not settle makes the writes up to that step and no later one. -/
theorem exec_phased_timesOut {bound : Nat} (hfirst : ∀ x ∈ first, x.label ≤ bound)
    (hsecond : ∀ x ∈ second, bound < x.label) {done left : List ProtectedStep} {last : ProtectedStep}
    {polls : List Nat} (hstop : s.StopsAt (first ++ second) done last left polls) :
    exec i s = .next { s with
      err := .idleTimeout, resultVal := 0, resultFstep := BitVec.ofNat 8 last.label, stkTimeout := true
      mcalActive := if last.label ≤ bound then s.mcalActive else active
      needsAdjust := if last.label ≤ bound then s.needsAdjust else needs
      store := stored (done ++ [last]) m
      sources := { s.sources with
        gcbStatus := s.sources.gcbStatus.advanceBy (drawsOf polls + s.cfg.pollLimit)
        ctbCalcode := s.sources.ctbCalcode.advanceBy (leadDraws .ctbCalcode (done ++ [last])) }
      trace := s.trace ++ (opening ++ s.timeoutEvents done polls last) } := by
  obtain ⟨hsplit, hlen, hs, hb⟩ := hstop
  have hs' : (s.begin.onBus m opening).Settles 0 polls := by
    rwa [State.settles_onBus, hopen, State.settles_begin]
  have hb' : (s.begin.onBus m opening).BusyFrom (drawsOf polls) (s.begin.onBus m opening).cfg.pollLimit := by
    rwa [State.busyFrom_advanced (s := s.begin) (t := s.begin.onBus m opening) rfl (s.begin.onBus_source m opening _),
      hopen, Nat.zero_add]
  have hapart : LeadsApart (done ++ last :: left) := hsplit ▸ hl .gcbStatus (by decide)
  have hcalm : LeadsCalm (done ++ [last]) := fun r hr x hx => hl r hr x (by
    rw [hsplit, List.append_cons]
    exact List.mem_append_left _ hx)
  have hrun := runScript_timesOut hapart hlen hs' hb'
  rw [← hsplit, State.timeoutEvents_onBus _ _ (hopen _), State.timeoutEvents_begin, State.onBus_store,
    State.onBus_onBus] at hrun
  rw [exec_wf i hwf, hproc, phased_raised hfirst hsecond hrun, settle_raised, State.onBus, Sources.after_append,
    Sources.after_of_no_draws hopen, State.begin_sources, Sources.after_timeoutEvents _ _ hcalm hlen]
  split <;> rfl

end

end Sys2Proof.Machine
end

section
/-! SUPPORT. The HS400 sequences (45_hs400_sequencer.md R186 to R188): what HS4ENT, HS4EXT and HWRST leave where
every step settles and where one of them times out. -/

namespace Sys2Proof.Machine

open Sys2Proof

/-! ### HS4ENT -/

theorem hs4entSwitch_label {s : State} {x : ProtectedStep} (hx : x ∈ hs4entSwitch s) : x.label ≤ 8 :=
  (by decide : ∀ p ∈ (stepTable .hs4ent).take 8, p.1 ≤ 8) _ ((hs4entSwitch_tags s).subset (List.mem_map_of_mem hx))

theorem enterCalibration_label {s : State} {x : ProtectedStep}
    (hx : x ∈ stepsIf s.cfg.manualCalib (enableScript 9 s)) : 8 < x.label :=
  (by decide : ∀ p ∈ (stepTable .hs4ent).drop 8, 8 < p.1) _
    ((enterCalibration_tags s).subset (List.mem_map_of_mem hx))

/-- The calibrator's steps in HS4ENT, where it runs (R186). -/
theorem enterCalibration_steps (s : State) :
    stepsIf s.cfg.manualCalib (enableScript 9 s) = match s.enterCode with
      | none => []
      | some code => [writeStep 9 .ctbWpunlock s.cfg.wpUnlockCode,
          ⟨10, [.read (.volatile .ctbCalcode) (s.upcoming .ctbCalcode 0)], .ctbMancal, code⟩,
          writeStep 11 .ctbCalofs (BitVec.ofNat 32 s.cfg.calibOffset)] := by
  cases hmanual : s.cfg.manualCalib with
  | false => simp [stepsIf, State.enterCode, hmanual]
  | true =>
    rw [State.enterCode, if_pos hmanual]
    rfl

theorem hs4entScript_leads (s : State) : LeadsCalm (hs4entScript s) ∧ LeadsRead (hs4entScript s) := by
  obtain ⟨hcalm, hread⟩ := enableScript_leads 9 s
  have hplain := hs4entSwitch_leads s
  simp only [hs4entScript_eq, LeadsCalm, LeadsSkip, LeadsRead, List.forall_mem_append, forall_mem_stepsIf]
  exact ⟨fun r hr => ⟨fun x hx => (hplain x hx).1 r, fun _ => hcalm r hr⟩,
    fun x hx => (hplain x hx).2, fun _ => hread⟩

/-- HS4ENT draws from the diagnostic port once, where the calibrator runs (R186). -/
theorem hs4entScript_codes (s : State) :
    leadDraws .ctbCalcode (hs4entScript s) = if s.enterCode.isSome then 1 else 0 := by
  rw [hs4entScript_eq, leadDraws_append, leadDraws_of_plain (hs4entSwitch_leads s), enterCalibration_steps]
  cases s.enterCode <;> simp

theorem procedureOf_hs4ent {s : State} (h : s.cfg.hs400Disabled = false) :
    procedureOf .hs4ent s.begin = phased (hs4entSwitch s) (stepsIf s.cfg.manualCalib (enableScript 9 s)) s.mcalActive
      s.cfg.manualCalib (enterClosing s)
      (s.begin.onBus (s.store.put .platCtrl s.cfg.platHs400On) [BusEvent.plat s.cfg.platHs400On]) :=
  hs4entProc_eq_phased (s := s.begin) h

theorem exec_hs4ent_settles {s : State} {polls : List Nat} (hwf : s.cfg.wf = true) (h : s.cfg.hs400Disabled = false)
    (hlen : polls.length = (hs4entScript s).length) (hs : s.Settles 0 polls) :
    exec .hs4ent s = .next { s with
      needsAdjust := s.cfg.manualCalib && s.enterCode.isNone, mcalActive := s.mcalActive || s.enterCode.isSome
      err := .ok, resultVal := 0, resultFstep := 0
      store := stored (hs4entScript s) (s.store.put .platCtrl s.cfg.platHs400On)
      sources := { s.sources with
        gcbStatus := s.sources.gcbStatus.advanceBy (drawsOf polls)
        ctbCalcode := s.sources.ctbCalcode.advanceBy (leadDraws .ctbCalcode (hs4entScript s)) }
      trace := s.trace ++ .plat s.cfg.platHs400On :: s.scriptEvents 0 (hs4entScript s) polls } :=
  exec_phased_settles (procedureOf_hs4ent h) (fun _ => rfl) hwf (hs4entScript_leads s).1 hlen hs

theorem hs4entScript_stored (s : State) :
    stored (hs4entScript s) (s.store.put .platCtrl s.cfg.platHs400On) = {
      gcbClkctl := s.store.gcbClkctl ||| 0x100#32
      gcbIfmode := s.store.gcbIfmode ||| 0x1#32
      ctbTapcfg := if s.cfg.fourTapHs400 then (s.store.ctbTapcfg &&& ~~~ 0xFF#32) ||| BitVec.ofNat 32 (s.cfg.n / 2)
        else s.store.ctbTapcfg
      ctbTapset := if s.cfg.fourTapHs400 then BitVec.ofNat 32 (s.tapSet.toNat / 2) else s.store.ctbTapset
      ctbTappos := s.cfg.tapposHs400
      ctbRvscntl := if s.cfg.capHs400Autocorr then s.store.ctbRvscntl else s.store.ctbRvscntl &&& ~~~ 0x1#32
      ctbAdjctl := s.store.ctbAdjctl ||| 0x3#32
      ctbWpunlock := if s.enterCode.isSome then s.cfg.wpUnlockCode else s.store.ctbWpunlock
      ctbMancal := s.enterCode.getD s.store.ctbMancal
      ctbCalofs := if s.enterCode.isSome then BitVec.ofNat 32 s.cfg.calibOffset else s.store.ctbCalofs
      platCtrl := s.cfg.platHs400On } := by
  rw [hs4entScript_eq, stored_append, enterCalibration_steps, hs4entSwitch]
  cases s.enterCode <;> cases s.cfg.fourTapHs400 <;> cases s.cfg.capHs400Autocorr <;> rfl

theorem map_event_stepsIf (b : Bool) (x : ProtectedStep) :
    (stepsIf b [x]).map ProtectedStep.event = listIf b x.event := by
  cases b <;> rfl

theorem enterCalibration_events (s : State) :
    (stepsIf s.cfg.manualCalib (enableScript 9 s)).map ProtectedStep.event =
      listIf s.enterCode.isSome (.write (.plain .ctbWpunlock) s.cfg.wpUnlockCode) ++
        s.enterCode.toList.map (BusEvent.write (.plain .ctbMancal)) ++
        listIf s.enterCode.isSome (.write (.plain .ctbCalofs) (BitVec.ofNat 32 s.cfg.calibOffset)) := by
  rw [enterCalibration_steps]
  cases s.enterCode <;> rfl

/-- Settles O42: the two parts of HS4ENT's script settle. -/
theorem hs4entSuccess : Obligations.Hs4entSuccess := by
  rintro s manual polls hwf hdisabled hlen hs hmanual
  obtain rfl : manual = s.enterCode := hmanual
  refine ⟨_, exec_hs4ent_settles hwf hdisabled hlen hs, ?_, ?_⟩
  · rw [hs4entScript_stored, hs4entScript_codes]
    cases s.enterCode <;> rfl
  · dsimp only
    rw [writesOf_append, writesOf_plat, writesOf_scriptEvents s (hs4entScript_leads s).2 0 hlen, hs4entScript_eq,
      List.map_append, enterCalibration_events, hs4entSwitch, stepsIf_pair]
    simp only [List.map_append, map_event_stepsIf, List.append_assoc]
    rfl

theorem manualCalib_of_enterCode {s : State} (h : s.enterCode.isSome = true) : s.cfg.manualCalib = true := by
  by_contra hmanual
  simp [State.enterCode, hmanual] at h

/-- A step of HS4ENT past label 8 is the calibrator's. -/
theorem enterCode_of_label {s : State} {x : ProtectedStep} (hx : x ∈ hs4entScript s) (h : 8 < x.label) :
    s.enterCode.isSome = true := by
  rw [hs4entScript_eq, enterCalibration_steps, List.mem_append] at hx
  rcases hx with hx | hx
  · exact absurd (hs4entSwitch_label hx) (Nat.not_le.mpr h)
  · cases hcode : s.enterCode with
    | none => simp [hcode] at hx
    | some code => rfl

/-- The step of HS4ENT that reads the diagnostic port has label 10 (R186). -/
theorem hs4entScript_code_label {s : State} {x : ProtectedStep} (hx : x ∈ hs4entScript s) (h : x.label ≠ 10) :
    drawsIn .ctbCalcode x.lead = 0 := by
  rw [hs4entScript_eq, enterCalibration_steps, List.mem_append] at hx
  rcases hx with hx | hx
  · exact (hs4entSwitch_leads s x hx).1 _
  · cases hcode : s.enterCode with
    | none => simp [hcode] at hx
    | some code =>
      simp only [hcode, List.mem_cons, List.not_mem_nil, or_false] at hx
      rcases hx with rfl | rfl | rfl
      · rfl
      · exact absurd rfl h
      · rfl

/-- HS4ENT that stops at the read of the diagnostic port or past it has made that one draw; before it, none. -/
theorem hs4entScript_codes_upTo {s : State} {done left : List ProtectedStep} {last : ProtectedStep}
    (h : hs4entScript s = done ++ last :: left) :
    leadDraws .ctbCalcode (done ++ [last]) = if 10 ≤ last.label then 1 else 0 := by
  obtain ⟨hdone, hleft⟩ := scriptOf_split_labels (i := .hs4ent) h
  have hskip {steps : List ProtectedStep} (hsub : ∀ x ∈ steps, x ∈ hs4entScript s ∧ x.label ≠ 10) :
      leadDraws .ctbCalcode steps = 0 :=
    LeadsSkip.leadDraws fun x hx => hs4entScript_code_label (hsub x hx).1 (hsub x hx).2
  split
  · next hlabel =>
    have hcode := enterCode_of_label (s := s) (x := last) (by simp [h]) (by omega)
    have hrest : leadDraws .ctbCalcode left = 0 :=
      hskip fun x hx => ⟨by simp [h, hx], by have := hleft x hx; omega⟩
    have hall := hs4entScript_codes s
    rwa [hcode, h, List.append_cons, leadDraws_append, hrest, Nat.add_zero] at hall
  · refine hskip (List.forall_mem_append.mpr ⟨fun x hx => ⟨by simp [h, hx], ?_⟩, ?_⟩)
    · have := hdone x hx
      omega
    · rw [List.forall_mem_singleton]
      exact ⟨by simp [h], by omega⟩

/-- Settles O59: a part of HS4ENT's script does not settle, and past label 8 the device asks for calibration. -/
theorem hs4entTimeout : Obligations.Hs4entTimeout := by
  intro s done last left polls hwf hdisabled hsplit hlen hs hb
  rw [exec_phased_timesOut (procedureOf_hs4ent hdisabled) (fun _ => rfl) hwf (hs4entScript_leads s).1
    (fun _ => hs4entSwitch_label) (fun _ => enterCalibration_label) ⟨hsplit, hlen, hs, hb⟩,
    hs4entScript_codes_upTo hsplit]
  have hneeds : (if last.label ≤ 8 then s.needsAdjust else s.cfg.manualCalib) =
      if last.label ≤ 8 then s.needsAdjust else true := by
    split
    · rfl
    · exact manualCalib_of_enterCode (enterCode_of_label (x := last) (by simp [hsplit]) (by omega))
  have hcodes : s.sources.ctbCalcode.advanceBy (if 10 ≤ last.label then 1 else 0) =
      if 10 ≤ last.label then s.sources.ctbCalcode.advanceBy 1 else s.sources.ctbCalcode :=
    apply_ite s.sources.ctbCalcode.advanceBy _ _ _
  rw [hneeds, hcodes, ite_self]
  rfl

/-! ### HS4EXT and HWRST -/

theorem disableScript_label (s : State) : ∀ x ∈ stepsIf s.mcalActive (disableScript 1 s), x.label ≤ 3 := by
  simp [disableScript]

theorem hs4extSwitch_label (s : State) : ∀ x ∈ hs4extSwitch s, 3 < x.label := by
  simp only [hs4extSwitch, List.forall_mem_append, forall_mem_stepsIf, List.forall_mem_cons]
  simp [pauseStep, resumeStep, tapnumStep, rmwStep]

theorem hwrstSwitch_label (s : State) : ∀ x ∈ hwrstSwitch s, 3 < x.label := by
  simp only [hwrstSwitch, List.forall_mem_append, forall_mem_stepsIf, List.forall_mem_cons]
  simp [pauseStep, resumeStep, tapnumStep, rmwStep]

theorem procedureOf_hs4ext (s : State) :
    procedureOf .hs4ext s.begin = phased (stepsIf s.mcalActive (disableScript 1 s)) (hs4extSwitch s) false
      (s.needsAdjust && !s.mcalActive) (fun t => platWrite t.cfg.platHs400Off t) (s.begin.onBus s.store []) := by
  rw [← s.begin_store, State.onBus_nil]
  exact hs4extLines_eq_phased s.begin

theorem procedureOf_hwrst (s : State) :
    procedureOf .hwrst s.begin = phased (stepsIf s.mcalActive (disableScript 1 s)) (hwrstSwitch s) false
      (s.needsAdjust && !s.mcalActive) baseline (s.begin.onBus s.store []) := by
  rw [← s.begin_store, State.onBus_nil]
  exact hwrstLines_eq_phased s.begin

theorem exec_hs4ext_settles {s : State} {polls : List Nat} (hwf : s.cfg.wf = true)
    (hlen : polls.length = (hs4extScript s).length) (hs : s.Settles 0 polls) :
    exec .hs4ext s = .next { s with
      mcalActive := false, needsAdjust := s.needsAdjust && !s.mcalActive
      err := .ok, resultVal := 0, resultFstep := 0
      store := (stored (hs4extScript s) s.store).put .platCtrl s.cfg.platHs400Off
      sources := { s.sources with gcbStatus := s.sources.gcbStatus.advanceBy (drawsOf polls) }
      trace := s.trace ++ s.scriptEvents 0 (hs4extScript s) polls ++ [.plat s.cfg.platHs400Off] } := by
  have hplain := hs4extScript_leads s
  rw [hs4extScript_eq] at hlen hplain ⊢
  rw [exec_phased_settles (procedureOf_hs4ext s) (fun _ => rfl) hwf (leadsCalm_of_plain hplain) hlen hs,
    leadDraws_of_plain hplain]
  rfl

theorem exec_hwrst_settles {s : State} {polls : List Nat} (hwf : s.cfg.wf = true)
    (hlen : polls.length = (hwrstScript s).length) (hs : s.Settles 0 polls) :
    exec .hwrst s = .next { s with
      bitmap := 0, tapSet := 0, tuningActive := false, needsAdjust := false, mcalActive := false
      driftEv := .noError, winStart := 0, winEnd := 0, winLen := 0, winValid := false
      err := .ok, resultVal := 0, resultFstep := 0
      store := stored (hwrstScript s) s.store
      sources := { s.sources with gcbStatus := s.sources.gcbStatus.advanceBy (drawsOf polls) }
      trace := s.trace ++ s.scriptEvents 0 (hwrstScript s) polls } := by
  have hplain := hwrstScript_leads s
  rw [hwrstScript_eq] at hlen hplain ⊢
  rw [exec_phased_settles (procedureOf_hwrst s) (fun _ => rfl) hwf (leadsCalm_of_plain hplain) hlen hs,
    leadDraws_of_plain hplain]
  rfl

theorem hs4extScript_stored (s : State) :
    (stored (hs4extScript s) s.store).put .platCtrl s.cfg.platHs400Off = {
      gcbClkctl := s.store.gcbClkctl ||| 0x100#32
      gcbIfmode := s.store.gcbIfmode &&& ~~~ 0x1#32
      ctbTapcfg := if s.cfg.fourTapHs400 then (s.store.ctbTapcfg &&& ~~~ 0xFF#32) ||| BitVec.ofNat 32 s.cfg.n
        else s.store.ctbTapcfg
      ctbTapset := if s.cfg.fourTapHs400 then BitVec.ofNat 32 s.tapSet.toNat else s.store.ctbTapset
      ctbTappos := s.cfg.tapposDefault
      ctbRvscntl := if s.cfg.capHs400Autocorr then s.store.ctbRvscntl else s.store.ctbRvscntl ||| 0x1#32
      ctbAdjctl := s.store.ctbAdjctl &&& ~~~ 0x3#32
      ctbWpunlock := if s.mcalActive then s.cfg.wpUnlockCode else s.store.ctbWpunlock
      ctbMancal := if s.mcalActive then 0 else s.store.ctbMancal
      ctbCalofs := if s.mcalActive then 0 else s.store.ctbCalofs
      platCtrl := s.cfg.platHs400Off } := by
  rw [hs4extScript]
  cases s.mcalActive <;> cases s.cfg.fourTapHs400 <;> cases s.cfg.capHs400Autocorr <;> rfl

theorem hwrstScript_stored (s : State) :
    stored (hwrstScript s) s.store = {
      gcbClkctl := s.store.gcbClkctl ||| 0x100#32
      gcbIfmode := s.store.gcbIfmode &&& ~~~ 0x1#32
      ctbTapcfg := if s.cfg.fourTapHs400 then (s.store.ctbTapcfg &&& ~~~ 0xFF#32) ||| BitVec.ofNat 32 s.cfg.n
        else s.store.ctbTapcfg
      ctbTapset := 0
      ctbTappos := s.cfg.tapposDefault
      ctbRvscntl := s.store.ctbRvscntl &&& ~~~ 0x1#32
      ctbAdjctl := s.store.ctbAdjctl &&& ~~~ 0x3#32
      ctbWpunlock := if s.mcalActive then s.cfg.wpUnlockCode else s.store.ctbWpunlock
      ctbMancal := if s.mcalActive then 0 else s.store.ctbMancal
      ctbCalofs := if s.mcalActive then 0 else s.store.ctbCalofs
      platCtrl := s.store.platCtrl } := by
  rw [hwrstScript]
  cases s.mcalActive <;> cases s.cfg.fourTapHs400 <;> rfl

theorem disableScript_events (s : State) :
    (stepsIf s.mcalActive (disableScript 1 s)).map ProtectedStep.event =
      listIf s.mcalActive (.write (.plain .ctbWpunlock) s.cfg.wpUnlockCode) ++
        listIf s.mcalActive (.write (.plain .ctbMancal) 0) ++ listIf s.mcalActive (.write (.plain .ctbCalofs) 0) := by
  cases s.mcalActive <;> rfl

/-- Settles O43: the two parts of HS4EXT's script settle. -/
theorem hs4extSuccess : Obligations.Hs4extSuccess := by
  intro s polls hwf hlen hs
  refine ⟨_, exec_hs4ext_settles hwf hlen hs, by rw [hs4extScript_stored], ?_⟩
  dsimp only
  rw [writesOf_append, writesOf_append, writesOf_scriptEvents s (leadsRead_of_plain (hs4extScript_leads s)) 0 hlen,
    hs4extScript_eq, List.map_append, disableScript_events, hs4extSwitch, stepsIf_pair]
  simp only [List.map_append, map_event_stepsIf, List.append_assoc]
  rfl

/-- Settles O44: the two parts of HWRST's script settle. -/
theorem hwrstSuccess : Obligations.HwrstSuccess := by
  intro s polls hwf hlen hs
  refine ⟨_, exec_hwrst_settles hwf hlen hs, by rw [hwrstScript_stored], ?_⟩
  dsimp only
  rw [writesOf_append, writesOf_scriptEvents s (leadsRead_of_plain (hwrstScript_leads s)) 0 hlen,
    hwrstScript_eq, List.map_append, disableScript_events, hwrstSwitch]
  simp only [List.map_append, map_event_stepsIf, List.append_assoc]
  rfl

/-- A sequence that begins with the steps of McalDisable and stops has cleared the flags where it stops past label 3. -/
theorem exec_exit_timesOut {i : Instr} {s : State} {switch : List ProtectedStep} {closing : State → State}
    (hproc : procedureOf i s.begin = phased (stepsIf s.mcalActive (disableScript 1 s)) switch false
      (s.needsAdjust && !s.mcalActive) closing (s.begin.onBus s.store [])) (hwf : s.cfg.wf = true)
    (hplain : ∀ x ∈ stepsIf s.mcalActive (disableScript 1 s) ++ switch, x.LeadPlain)
    (hlabel : ∀ x ∈ switch, 3 < x.label) {done left : List ProtectedStep} {last : ProtectedStep} {polls : List Nat}
    (hstop : s.StopsAt (stepsIf s.mcalActive (disableScript 1 s) ++ switch) done last left polls) :
    exec i s = .next { s with
      err := .idleTimeout, resultVal := 0, resultFstep := BitVec.ofNat 8 last.label, stkTimeout := true
      mcalActive := if last.label ≤ 3 then s.mcalActive else false
      needsAdjust := if last.label ≤ 3 ∨ s.mcalActive = false then s.needsAdjust else false
      store := stored (done ++ [last]) s.store
      sources := { s.sources with
        gcbStatus := s.sources.gcbStatus.advanceBy (drawsOf polls + s.cfg.pollLimit) }
      trace := s.trace ++ s.timeoutEvents done polls last } := by
  have hupTo : ∀ x ∈ done ++ [last], x.LeadPlain := fun x hx => hplain x (by
    rw [hstop.split, List.append_cons]
    exact List.mem_append_left _ hx)
  have hneeds : (if last.label ≤ 3 then s.needsAdjust else s.needsAdjust && !s.mcalActive) =
      if last.label ≤ 3 ∨ s.mcalActive = false then s.needsAdjust else false := by
    cases s.mcalActive <;> simp
  rw [exec_phased_timesOut hproc (fun _ => rfl) hwf (leadsCalm_of_plain hplain) (disableScript_label s) hlabel hstop,
    leadDraws_of_plain hupTo, hneeds]
  rfl

/-- Settles O60: a part of either script does not settle, and McalDisable has run where it is the second part. -/
theorem hs4extHwrstTimeout : Obligations.Hs4extHwrstTimeout := by
  rintro s i done last left polls hwf (rfl | rfl) hsplit hlen hs hb
  · have hplain := hs4extScript_leads s
    rw [scriptOf, hs4extScript_eq] at hsplit
    rw [hs4extScript_eq] at hplain
    exact exec_exit_timesOut (procedureOf_hs4ext s) hwf hplain (hs4extSwitch_label s) ⟨hsplit, hlen, hs, hb⟩
  · have hplain := hwrstScript_leads s
    rw [scriptOf, hwrstScript_eq] at hsplit
    rw [hwrstScript_eq] at hplain
    exact exec_exit_timesOut (procedureOf_hwrst s) hwf hplain (hwrstSwitch_label s) ⟨hsplit, hlen, hs, hb⟩

end Sys2Proof.Machine
end

section
/-! SUPPORT. How the commands with protected writes end (40_register_sequencer.md R113, R115, 60_exceptions.md
R216): a timeout names the step that stopped, HWRST then keeps its state, and HS4ENT followed by HS4EXT restores the
registers (45_hs400_sequencer.md R191). -/

namespace Sys2Proof.Machine

open Sys2Proof

/-! ### Commands that do not time out -/

theorem adjust_err (ev : DriftEvent) (s : State) : (adjust ev s).err = s.err := by cases ev <;> rfl

theorem autoBranch_err (s : State) : (autoBranch s).2.err = s.err := by
  dsimp only [autoBranch]
  split <;> rfl

theorem manualBranch_err (s : State) : (manualBranch s).2.err = s.err := by
  dsimp only [manualBranch]
  split <;> rfl

theorem driftCheck_err (s : State) : (driftCheck s).2.err = s.err := by
  dsimp only [driftCheck]
  split
  · split
    · exact autoBranch_err _
    · exact (adjust_err _ _).trans (manualBranch_err _)
  · rfl

/-- A command without a protected write does not time out. -/
theorem exec_unscripted_err {i : Instr} (hi : ∀ k, stepRegister i k = none) {s t : State} (h : exec i s = .next t) :
    t.err ≠ .idleTimeout := by
  obtain ⟨_, rfl⟩ := exec_next h
  have hbegin : s.begin.err ≠ .idleTimeout := nofun
  cases i with
  | nop | tbegin | ldbl | ldbh => exact hbegin
  | probe | settm | clkup =>
    dsimp only [procedureOf, recordProbe, setTiming, lookUp]
    split <;> exact nofun
  | tune =>
    dsimp only [procedureOf, tuneProc, selectWindow]
    split <;> [split <;> exact nofun; exact nofun]
  | drift => exact (driftCheck_err s.begin).trans_ne hbegin
  | hs4ent | hs4ext | hwrst | mcalen | mcaldis => exact absurd (hi 1) nofun

theorem exec_hs4ent_disabled {s : State} (hwf : s.cfg.wf = true) (h : s.cfg.hs400Disabled = true) :
    exec .hs4ent s = .next { s with err := .disabled, resultVal := 0, resultFstep := 0 } := by
  have hproc : procedureOf .hs4ent s.begin = .raised .disabled s.begin := if_pos h
  rw [exec_wf _ hwf, hproc]
  rfl

theorem exec_mcalen_without_table {s : State} (hwf : s.cfg.wf = true) (h : s.cfg.calibTable = none) :
    exec .mcalen s = .next { s with err := .ok, resultVal := 0, resultFstep := 0 } := by
  rw [exec_wf _ hwf, procedureOf, mcalenProc, mcalEnable_without_table 1 (s := s.begin) h]
  rfl

/-- A command whose protected writes all settle does not time out. -/
theorem exec_settled_err {i : Instr} {s t : State} {polls : List Nat} (h : exec i s = .next t)
    (hlen : polls.length = (scriptOf i s).length) (hs : s.Settles 0 polls) : t.err ≠ .idleTimeout := by
  have hwf := (exec_next h).1
  cases i with
  | hs4ent =>
    cases hdisabled : s.cfg.hs400Disabled with
    | true =>
      cases (exec_hs4ent_disabled hwf hdisabled).symm.trans h
      exact nofun
    | false =>
      cases (exec_hs4ent_settles hwf hdisabled hlen hs).symm.trans h
      exact nofun
  | hs4ext =>
    cases (exec_hs4ext_settles hwf hlen hs).symm.trans h
    exact nofun
  | hwrst =>
    cases (exec_hwrst_settles hwf hlen hs).symm.trans h
    exact nofun
  | mcalen =>
    cases htab : s.cfg.calibTable with
    | none =>
      cases (exec_mcalen_without_table hwf htab).symm.trans h
      exact nofun
    | some tab =>
      cases (exec_script_settles (i := .mcalen) (mcalenProc_eq_script htab) hwf (enableScript_leadsApart 1 _) hlen
        hs).symm.trans h
      exact nofun
  | mcaldis =>
    cases (exec_script_settles (i := .mcaldis) (mcalDisable_eq_script 1 _) hwf (disableScript_leadsApart 1 _) hlen
      hs).symm.trans h
    exact nofun
  | _ => exact exec_unscripted_err (fun _ => rfl) h

/-! ### Commands that time out -/

/-- What a timeout leaves of the events and the registers: the label of the step that stopped, and the writes up to and
with that step. -/
structure TimedOut (i : Instr) (s t : State) (done : List ProtectedStep) (last : ProtectedStep) (polls : List Nat) :
    Prop where
  label : t.resultFstep = BitVec.ofNat 8 last.label
  store : t.store = stored (done ++ [last]) (openedStore i s)
  trace : t.trace = s.trace ++ (openingOf i s ++ s.timeoutEvents done polls last)

theorem exec_stopped {i : Instr} {s t : State} {done left : List ProtectedStep} {last : ProtectedStep}
    {polls : List Nat} (h : exec i s = .next t) (he : t.err = .idleTimeout)
    (hstop : s.StopsAt (scriptOf i s) done last left polls) : TimedOut i s t done last polls := by
  have hwf := (exec_next h).1
  obtain ⟨hsplit, hlen, hs, hb⟩ := hstop
  cases i with
  | hs4ent =>
    cases hdisabled : s.cfg.hs400Disabled with
    | true =>
      cases (exec_hs4ent_disabled hwf hdisabled).symm.trans h
      cases he
    | false =>
      cases (hs4entTimeout s done last left polls hwf hdisabled hsplit hlen hs hb).symm.trans h
      exact ⟨rfl, rfl, rfl⟩
  | hs4ext =>
    cases (hs4extHwrstTimeout s .hs4ext done last left polls hwf (.inl rfl) hsplit hlen hs hb).symm.trans h
    exact ⟨rfl, rfl, rfl⟩
  | hwrst =>
    cases (hs4extHwrstTimeout s .hwrst done last left polls hwf (.inr rfl) hsplit hlen hs hb).symm.trans h
    exact ⟨rfl, rfl, rfl⟩
  | mcalen =>
    cases htab : s.cfg.calibTable with
    | none =>
      cases (exec_mcalen_without_table hwf htab).symm.trans h
      cases he
    | some tab =>
      cases (exec_script_timesOut (i := .mcalen) (mcalenProc_eq_script htab) hwf (enableScript_leadsApart 1 _)
        hsplit hlen hs hb).symm.trans h
      exact ⟨rfl, rfl, rfl⟩
  | mcaldis =>
    cases (exec_script_timesOut (i := .mcaldis) (mcalDisable_eq_script 1 _) hwf (disableScript_leadsApart 1 _)
      hsplit hlen hs hb).symm.trans h
    exact ⟨rfl, rfl, rfl⟩
  | _ => exact absurd hsplit (by simp [scriptOf])

/-- A command that times out has stopped at one of its steps. -/
theorem exec_timeout_stops {i : Instr} {s t : State} (h : exec i s = .next t) (he : t.err = .idleTimeout) :
    ∃ done last left polls, s.StopsAt (scriptOf i s) done last left polls := by
  rcases s.settles_or_stopsAt (scriptOf i s) with ⟨polls, hlen, hs⟩ | hstop
  · exact absurd he (exec_settled_err h hlen hs)
  · exact hstop

theorem scriptOf_leadsRead (i : Instr) (s : State) : LeadsRead (scriptOf i s) := by
  cases i with
  | hs4ent => exact (hs4entScript_leads s).2
  | hs4ext => exact leadsRead_of_plain (hs4extScript_leads s)
  | hwrst => exact leadsRead_of_plain (hwrstScript_leads s)
  | mcalen => exact (enableScript_leads 1 s).2
  | mcaldis => exact leadsRead_of_plain (disableScript_leads 1 s)
  | _ => exact nofun

theorem writesOf_openingOf (i : Instr) (s : State) : writesOf (openingOf i s) = openingOf i s := by cases i <;> rfl

/-- The label of a step fits `result_fstep`. -/
theorem label_toNat {i : Instr} {s : State} {x : ProtectedStep} (hx : x ∈ scriptOf i s) :
    (BitVec.ofNat 8 x.label).toNat = x.label := by
  have := (scriptOf_label hx).1
  rw [BitVec.toNat_ofNat]
  omega

/-- Settles O45: the steps of the command's script before the one that stopped have smaller labels and have made their
writes, and those after it have larger ones. -/
theorem timeoutNamesLastWrite : Obligations.TimeoutNamesLastWrite := by
  intro s t i h he
  obtain ⟨done, last, left, polls, hstop⟩ := exec_timeout_stops h he
  obtain ⟨hlabel, hstore, htrace⟩ := exec_stopped h he hstop
  obtain ⟨hsplit, hlen, _, _⟩ := hstop
  obtain ⟨hdone, hleft⟩ := scriptOf_split_labels hsplit
  have hlast : last ∈ scriptOf i s := by simp [hsplit]
  have hread : LeadsRead (done ++ [last]) := fun x hx => scriptOf_leadsRead i s x (by
    rw [hsplit, List.append_cons]
    exact List.mem_append_left _ hx)
  have hwrites : writesOf t.trace = writesOf s.trace ++ openingOf i s ++ (done ++ [last]).map ProtectedStep.event := by
    rw [htrace, writesOf_append, writesOf_append, writesOf_openingOf, writesOf_timeoutEvents s hread hlen,
      List.append_assoc]
  refine ⟨done, last, left, hsplit, hdone, hleft, ?_, (scriptOf_label hlast).2, hwrites, hstore, ?_, ?_⟩
  · rw [hlabel, label_toNat hlast]
  · rw [lastWrite, hwrites, List.map_append, ← List.append_assoc]
    exact List.getLast?_concat
  · rw [hstore, stored_append, stored_cons, stored_nil, Store.get_put_same]

/-- Settles O47: a HWRST that stops has made no internal reset, and its flags are those McalDisable left. -/
theorem hwrstTimeoutKeepsState : Obligations.HwrstTimeoutKeepsState := by
  intro s t h he
  obtain ⟨done, last, left, polls, hstop⟩ := exec_timeout_stops h he
  have hlabel := label_toNat (i := .hwrst) (s := s) (x := last) (by simp [hstop.split])
  cases (hs4extHwrstTimeout s .hwrst done last left polls (exec_next h).1 (.inr rfl) hstop.split hstop.length
    hstop.settles hstop.busy).symm.trans h
  refine ⟨rfl, rfl, rfl, rfl, rfl, rfl, rfl, rfl, rfl, ?_, ?_⟩
  · dsimp only
    rw [hlabel]
    by_cases h3 : last.label ≤ 3 <;> simp [h3]
  · dsimp only
    rw [hlabel]
    by_cases h3 : last.label ≤ 3 <;> cases s.mcalActive <;> simp [h3]

/-! ### HS4ENT and then HS4EXT -/

theorem hs4ent_of_ok {s t : State} (h : exec .hs4ent s = .next t) (he : t.err = .ok) :
    s.cfg.hs400Disabled = false ∧ ∃ polls, polls.length = (hs4entScript s).length ∧ s.Settles 0 polls := by
  have hwf := (exec_next h).1
  cases hdisabled : s.cfg.hs400Disabled with
  | true =>
    cases (exec_hs4ent_disabled hwf hdisabled).symm.trans h
    cases he
  | false =>
    refine ⟨rfl, (s.settles_or_stopsAt (hs4entScript s)).resolve_right ?_⟩
    rintro ⟨done, last, left, polls, hsplit, hlen, hs, hb⟩
    cases (hs4entTimeout s done last left polls hwf hdisabled hsplit hlen hs hb).symm.trans h
    cases he

theorem hs4ext_of_ok {s t : State} (h : exec .hs4ext s = .next t) (he : t.err = .ok) :
    ∃ polls, polls.length = (hs4extScript s).length ∧ s.Settles 0 polls := by
  refine (s.settles_or_stopsAt (hs4extScript s)).resolve_right ?_
  rintro ⟨done, last, left, polls, hsplit, hlen, hs, hb⟩
  cases (hs4extHwrstTimeout s .hs4ext done last left polls (exec_next h).1 (.inl rfl) hsplit hlen hs hb).symm.trans h
  cases he

theorem hs4ent_store {s t : State} (h : exec .hs4ent s = .next t) (he : t.err = .ok) :
    t.store = stored (hs4entScript s) (s.store.put .platCtrl s.cfg.platHs400On) := by
  obtain ⟨hdisabled, polls, hlen, hs⟩ := hs4ent_of_ok h he
  cases (exec_hs4ent_settles (exec_next h).1 hdisabled hlen hs).symm.trans h
  rfl

theorem hs4ext_store {s t : State} (h : exec .hs4ext s = .next t) (he : t.err = .ok) :
    t.store = (stored (hs4extScript s) s.store).put .platCtrl s.cfg.platHs400Off := by
  obtain ⟨polls, hlen, hs⟩ := hs4ext_of_ok h he
  cases (exec_hs4ext_settles (exec_next h).1 hlen hs).symm.trans h
  rfl

theorem clear_set_bits (v w : Word) : (v ||| w) &&& ~~~ w = v &&& ~~~ w := by
  ext i hi
  cases hw : w[i] <;> simp [hw]

/-- Setting a bit that is set changes nothing. -/
theorem set_set_bit {v : Word} (h : v.getLsbD 0 = true) : v ||| 0x1#32 = v := by
  ext i hi
  obtain _ | i := i
  · simpa using h
  · simp

/-- Half a tap count lies in the field `TAPNUM` (R45). -/
theorem halfTapCount_in_tapnum {n : Nat} (hn : n ≤ 16) : BitVec.ofNat 32 (n / 2) &&& ~~~ 0xFF#32 = 0#32 := by
  have hhalf : n / 2 ≤ 8 := by omega
  generalize n / 2 = half at hhalf
  interval_cases half <;> rfl

/-- A field written twice holds what was written last, the other bits staying as they were. -/
theorem replace_field {v w x mask : Word} (hw : w &&& ~~~ mask = 0#32) :
    (((v &&& ~~~ mask) ||| w) &&& ~~~ mask) ||| x = (v &&& ~~~ mask) ||| x := by
  rw [BitVec.and_or_distrib_right, BitVec.and_assoc, BitVec.and_self, hw, BitVec.or_zero]

/-- Settles O48: both sequences settle, and what HS4EXT writes to the named fields undoes what HS4ENT wrote. -/
theorem enterThenExitRestores : Obligations.EnterThenExitRestores := by
  intro s t u hent hent_ok hext hext_ok hrvsen
  have hn : s.cfg.n ≤ 16 := (Config.tapCount_of_wf (exec_next hent).1).2
  rw [hs4ext_store hext hext_ok, hs4extScript_stored, exec_cfg hent, hs4ent_store hent hent_ok, hs4entScript_stored]
  refine ⟨?_, clear_set_bits _ _, clear_set_bits _ _, ?_, fun hfour => ?_, fun hfour => ?_⟩
  · rw [BitVec.or_assoc, BitVec.or_self]
  · cases hcap : s.cfg.capHs400Autocorr with
    | false => exact set_cleared_bits _ _
    | true => exact (set_set_bit (hrvsen.resolve_left (by simp [hcap]))).symm
  · dsimp only
    rw [if_pos hfour, if_pos hfour, replace_field (halfTapCount_in_tapnum hn)]
  · simp [hfour]

end Sys2Proof.Machine
end

section
/-! SUPPORT. How commands end (60_exceptions.md R215 to R224): the words that are no command, the outcomes a
configuration or a bitmap decides, what each command can raise, the reporting state after every command, and who sets
the sticky bits. -/

namespace Sys2Proof.Machine

open Sys2Proof

/-! ### Words that are no command -/

theorem deliver_illegal {w : Word} {why : IllegalWord} (h : decode w = .error why) (s : State) :
    deliver w s = execIllegal s := by
  simp only [deliver, h]

theorem execIllegal_wf {s : State} (h : s.cfg.wf = true) : execIllegal s = .next (takeRaise .illegalCommand s.begin) :=
  runCommand_wf _ h

/-- A word no row of the opcode table covers does not decode (30_encoding.md R98). -/
theorem decode_uncovered {w : Word} (h : ¬ ∃ row ∈ opcodeRows, row.covers w = true) :
    ∃ why, decode w = .error why := by
  cases hd : decode w with
  | ok i => exact absurd ((legalWordsAreTableRows.1 w).mp ⟨i, hd⟩) h
  | error why => exact ⟨why, rfl⟩

/-- Settles O5: such a word does not decode, and an illegal word is the failure outcome after the common beginning. -/
theorem illegalWordOutcome : Obligations.IllegalWordOutcome := by
  intro s w hwf hw
  obtain ⟨why, hd⟩ := decode_uncovered hw
  rw [deliver_illegal hd, execIllegal_wf hwf]
  rfl

/-! ### Outcomes that the configuration or the bitmap decides -/

theorem selectWindow_rejects {s : State} (h : (longestRun s.cfg.n s.bitmap).len < 3) :
    selectWindow s = .raised .noStableWindow (rejectWindow s) := if_pos h

/-- Settles O27: TUNE's procedure merges the bitmap and rejects the window. -/
theorem tuneNoStableWindow : Obligations.TuneNoStableWindow := by
  intro s hwf henabled hshort
  rw [exec_wf _ hwf, procedureOf_tune_enabled (s := s.begin) henabled,
    selectWindow_rejects (s := mergeBitmap s.begin) hshort]
  rfl

theorem procedureOf_tune_disabled {s : State} (h : s.cfg.tuningEnabled = false) :
    procedureOf .tune s = .raised .disabled s := if_neg (Bool.eq_false_iff.mp h)

theorem driftGate_of_tuning_disabled {s : State} (h : s.cfg.tuningEnabled = false) : driftGate s = false := by
  simp [driftGate, h]

/-- Settles O49: three refusals by the configuration, a gated-out DRIFT, and McalEnable without a table. -/
theorem disabledOutcomes : Obligations.DisabledOutcomes := by
  intro s hwf
  refine ⟨fun h => ?_, exec_hs4ent_disabled hwf, fun h imm8 => (clkupResult s imm8 hwf).2.1 h,
    fun h => driftGateResult.2 s hwf (driftGate_of_tuning_disabled h), exec_mcalen_without_table hwf⟩
  rw [exec_wf _ hwf, procedureOf_tune_disabled (s := s.begin) h]
  rfl

/-! ### What a procedure leaves of the reporting state -/

/-- The commands that report a value in `result_val` (60_exceptions.md R215). -/
def returnsValue : Instr → Bool
  | .tune | .drift | .clkup _ | .mcalen => true
  | .nop | .tbegin | .probe _ _ | .ldbl _ | .ldbh _ | .settm _ | .hs4ent | .hs4ext | .hwrst | .mcaldis => false

/-- The outcome, the step label, the sticky bits, and the result of a command that reports none. -/
def State.reportPart (i : Instr) (s : State) : Err × Octet × Bool × Bool × Octet :=
  (s.err, s.resultFstep, s.stkTimeout, s.stkIllegal, if returnsValue i then 0 else s.resultVal)

/-- From `s` to `t` the reporting state is kept, but for the value that command `i` reports. -/
def KeepsReport (i : Instr) (s t : State) : Prop := t.reportPart i = s.reportPart i

theorem keepsReport_calibPreorder (i : Instr) : CalibPreorder (KeepsReport i) where
  refl _ := rfl
  trans _ _ _ hst htu := htu.trans hst
  bus _ _ _ _ := rfl
  flags _ _ _ := rfl

theorem driftCheck_keepsReport (s : State) : KeepsReport .drift s (driftCheck s).2 := by
  cases hgate : driftGate s with
  | false =>
    rw [driftCheck_gatedOut hgate]
    rfl
  | true =>
    cases hauto : autoCorrectOn s.store.ctbRvscntl with
    | true =>
      rw [driftCheck_auto hgate hauto]
      rfl
    | false =>
      rw [driftCheck_manual hgate hauto rfl]
      rfl

/-- No line of a procedure writes the outcome, the step label or a sticky bit; that is left to the ending (R215). -/
theorem procedureOf_keepsReport (i : Instr) : Respects (KeepsReport i) (procedureOf i) := by
  have h := keepsReport_calibPreorder i
  intro s
  cases i with
  | nop | tbegin | ldbl | ldbh => rfl
  | probe p idx => dsimp only [procedureOf, recordProbe]; split <;> rfl
  | tune => dsimp only [procedureOf, tuneProc, selectWindow]; split <;> [split <;> rfl; rfl]
  | settm imm8 => dsimp only [procedureOf, setTiming]; split <;> rfl
  | drift => exact h.trans _ _ _ (driftCheck_keepsReport s) rfl
  | hs4ent => exact h.hs4entProc s
  | hs4ext => exact h.hs4extLines s
  | hwrst => exact h.hwrstLines (fun _ => rfl) s
  | clkup imm8 => dsimp only [procedureOf, lookUp]; split <;> rfl
  | mcalen =>
    dsimp only [procedureOf, mcalenProc]
    refine h.andThen (h.mcalEnable 1) (fun _ _ => ?_) s
    rfl
  | mcaldis => exact h.mcalDisable 1 s

/-! ### What a procedure can raise -/

theorem hs4entProc_disabled {s : State} (h : s.cfg.hs400Disabled = true) : hs4entProc s = .raised .disabled s :=
  if_pos h

/-- The failure outcomes of a command, on a device with `n` taps (60_exceptions.md R216 to R220, R224). -/
def MayRaise (n : Nat) (i : Instr) : Raise → Prop
  | .idleTimeout _ => i = .mcalen ∨ i = .mcaldis ∨ i = .hs4ent ∨ i = .hs4ext ∨ i = .hwrst
  | .noStableWindow => i = .tune
  | .illegalCommand => False
  | .badOperand => i.wellFormed n = false
  | .disabled => i = .tune ∨ i = .hs4ent ∨ ∃ x, i = .clkup x

/-- A procedure that raises nothing but a timeout. -/
def OnlyTimesOut {α : Type} (p : Proc α) : Prop := ∀ y t, p = .raised y t → ∃ k, y = .idleTimeout k

theorem onlyTimesOut_done {α : Type} (a : α) (s : State) : OnlyTimesOut (.done a s) := by
  intro y t h
  cases h

theorem OnlyTimesOut.andThen {α β : Type} {p : Proc α} {f : α → State → Proc β} (hp : OnlyTimesOut p)
    (hf : ∀ a t, OnlyTimesOut (f a t)) : OnlyTimesOut (p.andThen f) := by
  cases p with
  | done a t => exact hf a t
  | raised y t =>
    intro z u h
    cases h
    exact hp y t rfl

theorem runScript_onlyTimesOut (steps : List ProtectedStep) (s : State) : OnlyTimesOut (runScript steps s) := by
  intro y t h
  obtain ⟨x, -, hy⟩ := runScript_raised h
  exact ⟨x.label, hy⟩

theorem phased_onlyTimesOut (first second : List ProtectedStep) (active needs : Bool) (closing : State → State)
    (s : State) : OnlyTimesOut (phased first second active needs closing s) :=
  (runScript_onlyTimesOut first s).andThen fun _ _ =>
    (runScript_onlyTimesOut second _).andThen fun _ _ => onlyTimesOut_done _ _

theorem mcalenProc_onlyTimesOut (s : State) : OnlyTimesOut (mcalenProc s) := by
  cases htab : s.cfg.calibTable with
  | none =>
    rw [mcalenProc, mcalEnable_without_table 1 htab]
    exact onlyTimesOut_done _ _
  | some tab =>
    rw [mcalenProc_eq_script htab]
    exact (runScript_onlyTimesOut _ s).andThen fun _ _ => onlyTimesOut_done _ _

theorem mcalDisable_onlyTimesOut (k0 : Nat) (s : State) : OnlyTimesOut (mcalDisable k0 s) := by
  rw [mcalDisable_eq_script]
  exact (runScript_onlyTimesOut _ s).andThen fun _ _ => onlyTimesOut_done _ _

theorem hs4entProc_onlyTimesOut {s : State} (h : s.cfg.hs400Disabled = false) : OnlyTimesOut (hs4entProc s) := by
  rw [hs4entProc_eq_phased h]
  exact phased_onlyTimesOut _ _ _ _ _ _

theorem hs4extLines_onlyTimesOut (s : State) : OnlyTimesOut (runActions hs4extLines s) := by
  rw [hs4extLines_eq_phased]
  exact phased_onlyTimesOut _ _ _ _ _ _

theorem hwrstLines_onlyTimesOut (s : State) : OnlyTimesOut (runActions hwrstLines s) := by
  rw [hwrstLines_eq_phased]
  exact phased_onlyTimesOut _ _ _ _ _ _

/-- What a procedure raises is in the table of R224. -/
theorem procedureOf_mayRaise {i : Instr} {s t : State} {y : Raise} (h : procedureOf i s = .raised y t) :
    MayRaise s.cfg.n i y := by
  cases i with
  | nop | tbegin | ldbl | ldbh | drift => cases h
  | probe p idx =>
    by_cases hidx : idx.toNat < 2 * s.cfg.n
    · cases (recordProbe_inRange p hidx).symm.trans h
    · cases (recordProbe_outOfRange p (Nat.not_lt.mp hidx)).symm.trans h
      exact decide_eq_false hidx
  | settm imm8 =>
    by_cases himm : imm8.toNat ≤ 3
    · cases (setTiming_inRange s himm).symm.trans h
    · cases (setTiming_outOfRange s (Nat.not_le.mp himm)).symm.trans h
      exact decide_eq_false himm
  | tune =>
    cases henabled : s.cfg.tuningEnabled with
    | false =>
      cases (procedureOf_tune_disabled henabled).symm.trans h
      exact .inl rfl
    | true =>
      rw [procedureOf_tune_enabled henabled] at h
      by_cases hshort : (longestRun (mergeBitmap s).cfg.n (mergeBitmap s).bitmap).len < 3
      · cases (selectWindow_rejects hshort).symm.trans h
        exact rfl
      · cases (selectWindow_accepts (Nat.not_lt.mp hshort)).symm.trans h
  | clkup imm8 =>
    cases htab : s.cfg.calibTable with
    | none =>
      cases (lookUp_without_table imm8 htab).symm.trans h
      exact .inr (.inr ⟨imm8, rfl⟩)
    | some tab => cases (lookUp_with_table imm8 htab).symm.trans h
  | hs4ent =>
    cases hdisabled : s.cfg.hs400Disabled with
    | true =>
      cases (hs4entProc_disabled hdisabled).symm.trans h
      exact .inr (.inl rfl)
    | false =>
      obtain ⟨k, rfl⟩ := hs4entProc_onlyTimesOut hdisabled y t h
      simp [MayRaise]
  | hs4ext =>
    obtain ⟨k, rfl⟩ := hs4extLines_onlyTimesOut s y t h
    simp [MayRaise]
  | hwrst =>
    obtain ⟨k, rfl⟩ := hwrstLines_onlyTimesOut s y t h
    simp [MayRaise]
  | mcalen =>
    obtain ⟨k, rfl⟩ := mcalenProc_onlyTimesOut s y t h
    simp [MayRaise]
  | mcaldis =>
    obtain ⟨k, rfl⟩ := mcalDisable_onlyTimesOut 1 s y t h
    simp [MayRaise]

/-- A command whose operand is out of range is refused before it does anything (30_encoding.md R99). -/
theorem procedureOf_outOfRange {i : Instr} {s : State} (h : i.wellFormed s.cfg.n = false) :
    procedureOf i s = .raised .badOperand s := by
  cases i with
  | probe p idx => exact recordProbe_outOfRange p (Nat.not_lt.mp (of_decide_eq_false h))
  | settm imm8 => exact setTiming_outOfRange s (Nat.not_le.mp (of_decide_eq_false h))
  | _ => cases h

/-! ### How a command ends -/

/-- A command completes with the reporting state of its beginning, or takes a failure outcome it may raise (R215). -/
theorem exec_ends {i : Instr} {s t : State} (h : exec i s = .next t) :
    KeepsReport i s.begin t ∨ ∃ y u, MayRaise s.cfg.n i y ∧ KeepsReport i s.begin u ∧ t = takeRaise y u := by
  obtain ⟨-, rfl⟩ := exec_next h
  have hkeep := procedureOf_keepsReport i s.begin
  cases hproc : procedureOf i s.begin with
  | done _ u =>
    rw [hproc] at hkeep
    exact .inl hkeep
  | raised y u =>
    rw [hproc] at hkeep
    exact .inr ⟨y, u, procedureOf_mayRaise (s := s.begin) hproc, hkeep, rfl⟩

theorem exec_outOfRange {i : Instr} {s t : State} (h : exec i s = .next t) (hi : i.wellFormed s.cfg.n = false) :
    t.err = .badOperand := by
  obtain ⟨-, rfl⟩ := exec_next h
  rw [procedureOf_outOfRange (s := s.begin) hi]
  rfl

/-- The reporting state at the beginning of a command, kept (R215). -/
theorem keepsReport_begin_iff {i : Instr} {s t : State} :
    KeepsReport i s.begin t ↔
      t.err = .ok ∧ t.resultFstep = 0 ∧ t.stkTimeout = s.stkTimeout ∧ t.stkIllegal = s.stkIllegal ∧
        (returnsValue i = false → t.resultVal = 0) := by
  cases hi : returnsValue i <;> simp [KeepsReport, State.reportPart, hi]

theorem returnsValue_iff (i : Instr) :
    returnsValue i = true ↔ i = .tune ∨ i = .drift ∨ (∃ x, i = .clkup x) ∨ i = .mcalen := by
  cases i <;> simp [returnsValue]

/-- Settles O50: a command that completes keeps the reporting state of its beginning, and the failure outcomes a command
may raise are those of R224's table. -/
theorem commandEndings : Obligations.CommandEndings := by
  intro s t i h
  have hrange := exec_outOfRange h
  rw [← returnsValue_iff]
  rcases exec_ends h with hkeep | ⟨y, u, hy, hkeep, rfl⟩
  · obtain ⟨herr, hfstep, -, -, hval⟩ := keepsReport_begin_iff.mp hkeep
    have hreturns (hne : t.resultVal ≠ 0) : returnsValue i = true := Bool.of_not_eq_false fun hi => hne (hval hi)
    rw [herr] at hrange ⊢
    exact ⟨fun _ => hfstep, absurd rfl, hreturns, nofun, nofun, nofun, ⟨nofun, hrange⟩, nofun⟩
  · obtain ⟨-, hfstep, -, -, -⟩ := keepsReport_begin_iff.mp hkeep
    cases y with
    | idleTimeout k =>
      exact ⟨absurd rfl, fun _ => rfl, absurd rfl, nofun, fun _ => hy, nofun, ⟨nofun, hrange⟩, nofun⟩
    | noStableWindow =>
      exact ⟨fun _ => hfstep, fun _ => rfl, absurd rfl, fun _ => hy, nofun, nofun, ⟨nofun, hrange⟩, nofun⟩
    | illegalCommand => exact hy.elim
    | badOperand =>
      exact ⟨fun _ => hfstep, fun _ => rfl, absurd rfl, nofun, nofun, nofun, ⟨fun _ => hy, hrange⟩, nofun⟩
    | disabled =>
      exact ⟨fun _ => hfstep, fun _ => rfl, absurd rfl, nofun, nofun, nofun, ⟨nofun, hrange⟩, fun _ => hy⟩

/-! ### The sticky bits -/

theorem exec_sticky {i : Instr} {s t : State} (h : exec i s = .next t) :
    (t.stkTimeout = true ↔ s.stkTimeout = true ∨ t.err = .idleTimeout) ∧
      (t.stkIllegal = true ↔ s.stkIllegal = true ∨ t.err = .badOperand) := by
  rcases exec_ends h with hkeep | ⟨y, u, hy, hkeep, rfl⟩
  · obtain ⟨herr, -, htimeout, hillegal, -⟩ := keepsReport_begin_iff.mp hkeep
    simp [herr, htimeout, hillegal]
  · obtain ⟨-, -, htimeout, hillegal, -⟩ := keepsReport_begin_iff.mp hkeep
    cases y with
    | illegalCommand => exact hy.elim
    | _ => simp [takeRaise, htimeout, hillegal]

theorem execIllegal_sticky {s t : State} (h : execIllegal s = .next t) :
    t.stkTimeout = s.stkTimeout ∧ t.stkIllegal = true := by
  rw [execIllegal_next h]
  exact ⟨rfl, rfl⟩

/-- The sticky bits set in `s` are set in `t`. -/
def StickyKept (s t : State) : Prop :=
  (s.stkTimeout = true → t.stkTimeout = true) ∧ (s.stkIllegal = true → t.stkIllegal = true)

theorem busWrite_stickyKept (r : Target) (v : Word) (s : State) : StickyKept s (busWrite r v s) := by
  cases r <;> exact ⟨id, id⟩

theorem busRead_stickyKept (r : Target) (s : State) : StickyKept s (busRead r s) := by
  cases r <;> exact ⟨id, id⟩

/-- Every move of the outside world but the power-on reset keeps the sticky bits (R223). -/
theorem perform_stickyKept {m : Move} {s t : State} (hm : m ≠ .powerOn) (h : perform m s = .next t) :
    StickyKept s t := by
  rcases perform_next h with ⟨_, _, _, _, he⟩ | ⟨_, _, _, _, he⟩ | ⟨_, _, _, _, rfl⟩ | ⟨_, _, rfl⟩ |
    ⟨r, v, _, rfl⟩ | ⟨r, _, rfl⟩ | ⟨rfl, _⟩
  · obtain ⟨htimeout, hillegal⟩ := exec_sticky he
    exact ⟨fun hs => htimeout.mpr (.inl hs), fun hs => hillegal.mpr (.inl hs)⟩
  · obtain ⟨htimeout, hillegal⟩ := execIllegal_sticky he
    exact ⟨htimeout.trans, fun _ => hillegal⟩
  · exact ⟨id, id⟩
  · exact ⟨id, id⟩
  · exact busWrite_stickyKept r v s
  · exact busRead_stickyKept r s
  · exact absurd rfl hm

/-- A step that does not take the power-on reset keeps the sticky bits (R223). -/
theorem step_stickyKept {s t : State} (h : step s = .next t) (hreset : ¬ ∃ rest, s.inbox = .powerOn :: rest) :
    StickyKept s t := by
  obtain ⟨-, ⟨-, rfl⟩ | ⟨m, rest, hm, hp⟩⟩ := step_next h
  · exact ⟨id, id⟩
  · exact perform_stickyKept (s := { s with inbox := rest }) (fun he => hreset ⟨rest, he ▸ hm⟩) hp

/-- Settles O51: by how commands and illegal words end, and since every move but the reset keeps both bits. -/
theorem stickyBits : Obligations.StickyBits := by
  refine ⟨fun _ _ _ => exec_sticky,
    fun s _ _ _ hd h => execIllegal_sticky ((deliver_illegal hd s).symm.trans h), fun s t h hcleared => ?_⟩
  by_contra hreset
  obtain ⟨htimeout, hillegal⟩ := step_stickyKept h hreset
  rcases hcleared with ⟨hs, ht⟩ | ⟨hs, ht⟩
  · exact Bool.false_ne_true (ht.symm.trans (htimeout hs))
  · exact Bool.false_ne_true (ht.symm.trans (hillegal hs))

end Sys2Proof.Machine
end

section
/-! SUPPORT. The power-on reset, the idle machine, and the hazard of a timeout while the sampling clock is paused
(70_reset_and_hazards.md R240, R249, R257). -/

namespace Sys2Proof.Machine

open Sys2Proof

/-! ### Reset and idling -/

/-- Settles O13: the step performs the reset move, which is the power-on reset. -/
theorem powerOnReset : Obligations.PowerOnReset := by
  intro s rest hwf hm
  rw [step_performs hwf hm]
  rfl

/-- Settles O14: a step with no move to take answers the state it is in. -/
theorem idleChangesNothing : Obligations.IdleChangesNothing := by
  intro s hwf hidle
  rw [step_wf hwf, takeMove, hidle]

/-! ### A timeout inside the clock bracket -/

/-- What every write of a register has in common holds of the register once it is written. -/
theorem stored_get_of_writes {p : Word → Prop} {r : PlainReg} {steps : List ProtectedStep}
    (hwritten : ∃ x ∈ steps, x.reg = r) (hall : ∀ x ∈ steps, x.reg = r → p x.value) (m : Store) :
    p ((stored steps m).get r) := by
  induction steps using List.reverseRecOn with
  | nil => simp at hwritten
  | append_singleton rest x ih =>
    rw [stored_append, stored_cons, stored_nil, Store.get_put]
    split
    · next hr => exact hall x (by simp) hr.symm
    · next hr =>
      obtain ⟨y, hy, rfl⟩ := hwritten
      rcases List.mem_append.mp hy with hy | hy
      · exact ih ⟨y, hy, rfl⟩ fun z hz => hall z (List.mem_append_left _ hz)
      · exact absurd (congrArg ProtectedStep.reg (List.mem_singleton.mp hy)) hr

/-- The steps pause the sampling clock at label `first`, and none before label `resume` lets it run again (R185). -/
structure PausesClock (steps : List ProtectedStep) (first resume : Nat) : Prop where
  pause : ∃ x ∈ steps, x.label = first ∧ x.reg = .gcbClkctl
  paused : ∀ x ∈ steps, x.label < resume → x.reg = .gcbClkctl → x.value.getLsbD 8 = false

theorem hs4ent_pausesClock (s : State) : PausesClock (scriptOf .hs4ent s) 1 8 where
  pause := ⟨pauseStep 1 s, by simp [scriptOf, hs4entScript], rfl, rfl⟩
  paused := by
    rw [scriptOf, hs4entScript_eq, List.forall_mem_append]
    constructor
    · simp only [hs4entSwitch, List.forall_mem_append, forall_mem_stepsIf, List.forall_mem_cons]
      simp [pauseStep, resumeStep, tapnumStep, rmwStep]
    · intro x hx hlabel
      have := enterCalibration_label hx
      omega

theorem hs4ext_pausesClock (s : State) : PausesClock (scriptOf .hs4ext s) 4 11 where
  pause := ⟨pauseStep 4 s, by simp [scriptOf, hs4extScript], rfl, rfl⟩
  paused := by
    simp only [scriptOf, hs4extScript, List.forall_mem_append, forall_mem_stepsIf, List.forall_mem_cons]
    simp [disableScript, pauseStep, resumeStep, tapnumStep, rmwStep]

theorem hwrst_pausesClock (s : State) : PausesClock (scriptOf .hwrst s) 4 11 where
  pause := ⟨pauseStep 4 s, by simp [scriptOf, hwrstScript], rfl, rfl⟩
  paused := by
    simp only [scriptOf, hwrstScript, List.forall_mem_append, forall_mem_stepsIf, List.forall_mem_cons]
    simp [disableScript, pauseStep, resumeStep, tapnumStep, rmwStep]

/-- The labels of every command count from 1 (R115). -/
theorem scriptOf_label_pos {i : Instr} {s : State} {x : ProtectedStep} (hx : x ∈ scriptOf i s) : 1 ≤ x.label := by
  have hreg := (scriptOf_label hx).2
  refine Nat.one_le_iff_ne_zero.mpr fun hzero => ?_
  rw [hzero] at hreg
  cases i <;> exact nomatch hreg

/-- A command that pauses the clock and stops before it resumes it leaves it paused. -/
theorem PausesClock.timeout_paused {i : Instr} {s t : State} {first resume : Nat}
    (hclock : PausesClock (scriptOf i s) first resume) (h : exec i s = .next t) (he : t.err = .idleTimeout)
    (hfirst : first ≤ t.resultFstep.toNat) (hresume : t.resultFstep.toNat < resume) :
    t.store.gcbClkctl.getLsbD 8 = false := by
  obtain ⟨done, last, left, hsplit, hdone, hleft, hlabel, -, -, hstore, -, -⟩ := timeoutNamesLastWrite s t i h he
  rw [hlabel] at hfirst hresume
  obtain ⟨⟨x, hx, hxlabel, hxreg⟩, hpaused⟩ := hclock
  rw [hsplit, List.append_cons] at hx hpaused
  have hmade : x ∈ done ++ [last] := (List.mem_append.mp hx).resolve_right fun hlate => by
    have := hleft x hlate
    omega
  have hearly : ∀ y ∈ done ++ [last], y.label < resume := by
    rw [List.forall_mem_append, List.forall_mem_singleton]
    exact ⟨fun y hy => (hdone y hy).trans hresume, hresume⟩
  rw [hstore]
  exact stored_get_of_writes (r := .gcbClkctl) (p := fun v => v.getLsbD 8 = false) ⟨x, hmade, hxreg⟩
    (fun y hy => hpaused y (List.mem_append_left _ hy) (hearly y hy)) _

/-- The label a timeout reports is that of a step, so it is not 0 (R113). -/
theorem exec_timeout_label_pos {i : Instr} {s t : State} (h : exec i s = .next t) (he : t.err = .idleTimeout) :
    1 ≤ t.resultFstep.toNat := by
  obtain ⟨done, last, left, hsplit, -, -, hlabel, -⟩ := timeoutNamesLastWrite s t i h he
  rw [hlabel]
  exact scriptOf_label_pos (i := i) (s := s) (by simp [hsplit])

/-- Settles O46: in each of the three scripts the labels named lie from the pause of the clock up to its resume. -/
theorem timeoutLeavesClockPaused : Obligations.TimeoutLeavesClockPaused := by
  rintro s t i h he (⟨rfl, hk⟩ | ⟨rfl | rfl, hpause, hk⟩)
  · exact (hs4ent_pausesClock s).timeout_paused h he (exec_timeout_label_pos h he) (by omega)
  · exact (hs4ext_pausesClock s).timeout_paused h he hpause (by omega)
  · exact (hwrst_pausesClock s).timeout_paused h he hpause (by omega)

end Sys2Proof.Machine
end
